-- ==== Sys2Proof/Word.lean ====
section
/-! DEFINITION. The words of the machine: a register and bus word of 32 bits (00_scope.md R8), a frame byte (10_state.md R22),
and the widths a bus transfer can signal (20_memory.md R56). -/

namespace Sys2Proof

/-- A frame byte (R22). -/
abbrev Byte := BitVec 8

/-- A register, a bus data word or a calibration word (R8). -/
abbrev Word := BitVec 32

/-- The byte offset of a register from `BASE`, 0x00 to 0xFF (R8, R50). -/
abbrev Offset := BitVec 8

/-- The nine bytes of one frame, FB0 to FB8 (R22, R89). -/
abbrev Frame := Vector Byte 9

/-- The width of a bus transfer: only `word` is accepted, the two others end in a bus error (R56). -/
inductive Width where
  | byte
  | half
  | word
deriving DecidableEq, Repr

end Sys2Proof
end

