-- ==== Sys2Proof/Machine/Types.lean ====
section
/-! DEFINITION. The closed sets of names of the spec that registers hold (outcome codes, gases, units), and what passes on the bus. -/

namespace Sys2Proof.Machine

/-- The outcome codes of STATUS.ERR (60_exceptions.md R181). Codes 11 to 15 are never produced (93_implementation_defined.md I16)
and have no name here. -/
inductive ErrCode where
  | ok
  | illegal
  | badsum
  | singular
  | rescode
  | unkgas
  | notemp
  | noband
  | divzero
  | clamp
  | sat
deriving DecidableEq, Repr

/-- The gas identities of GAS.GASID (42_gas_calibration.md R140). Codes 12 to 14 are never produced and have no name here. -/
inductive Gas where
  | o2
  | co
  | h2s
  | no2
  | o3
  | cl2
  | nh3
  | h2
  | hcl
  | so2
  | hf
  | ph3
  | unknown
deriving DecidableEq, Repr

/-- The units of GAS.UNIT: no unit, "%" and "ppm" (42_gas_calibration.md R142). -/
inductive UnitCode where
  | none
  | percent
  | ppm
deriving DecidableEq, Repr

/-- One transfer on the host's bus: direction, width, bus address and, for a write, the data word (30_encoding.md R85;
20_memory.md R56). -/
structure BusAccess where
  write : Bool
  width : Width
  addr : Nat
  data : Word
deriving DecidableEq, Repr

/-- What the outside world does to the block: one access, a reset, or a reset asserted while an access is held on the bus
(70_reset_and_hazards.md R200, R204). -/
inductive HostEvent where
  | access (x : BusAccess)
  | reset
  | resetDuring (x : BusAccess)
deriving DecidableEq, Repr

/-- What the bus returned to the host at the last access the block served (20_memory.md R54 to R56): nothing yet, the data of a
read, the completion of a write, or the error response of a read (with its data) or of a write. -/
inductive BusResponse where
  | none
  | read (data : Word)
  | written
  | readError (data : Word)
  | writeError
deriving DecidableEq, Repr

end Sys2Proof.Machine
end

