-- ==== Sys2Proof/Syntax.lean ====
section
/-! DEFINITION. The instructions: the six commands and the two bus accesses of opcode_table.json (00_scope.md R17; 30_encoding.md R82,
R85). -/

namespace Sys2Proof

/-- One constructor per row of opcode_table.json. A command is the host's write of its word to CMD (30_encoding.md R85, R87).
A bus access carries the width the bus signals, so that the accesses of 20_memory.md R56 that end in a bus error are instructions too. -/
inductive Instr where
  /-- BUILD: complete a request frame (R104). -/
  | build
  /-- CHECK: validate a frame's checksum (R106). -/
  | check
  /-- THERM.A: convert the temperature code at FB2:FB3 (R124). -/
  | thermA
  /-- THERM.B: convert the temperature code at FB6:FB7 (R124). -/
  | thermB
  /-- DECODE: decode concentration, probe type and resolution (R151). -/
  | decode
  /-- CORR: apply temperature compensation (R156). -/
  | corr
  /-- RD: a host read at a byte offset (R54, R56). -/
  | rd (width : Width) (off : Offset)
  /-- WR: a host write at a byte offset (R55, R56). -/
  | wr (width : Width) (off : Offset) (data : Word)
deriving DecidableEq, Repr

end Sys2Proof
end

