-- ==== Sys2Proof/WellFormed.lean ====
section
/-! DEFINITION. Well-formed instructions: the ones that are the one reading of their words. A 32-bit write of a legal command word to
CMD IS that command (30_encoding.md R85, R87), so the same write spelled as WR is not well-formed. -/

namespace Sys2Proof

/-- The legal CMD words of 30_encoding.md R82. -/
def legalCmdWords : List Word := [0x00000001, 0x00000002, 0x00000003, 0x00000013, 0x00000004, 0x00000005]

/-- The offset of CMD (10_state.md R23). -/
def cmdOffset : Offset := 0x24

/-- Whether an instruction is the one reading of its words (log entry 18). -/
def Instr.wf (i : Instr) : Bool :=
  match i with
  | .build => true
  | .check => true
  | .thermA => true
  | .thermB => true
  | .decode => true
  | .corr => true
  | .rd _ _ => true
  | .wr width off data => !(width == .word && off == cmdOffset && legalCmdWords.contains data)

end Sys2Proof
end

