-- ==== Sys2Proof/Decode.lean ====
section
/-! DEFINITION. The decoder: of a CMD word (30_encoding.md R80 to R84), of a bus access (R85), and of the numbered words of
opcode_table.json. Then the encoder, from the same tables. -/

namespace Sys2Proof

open Sys2Proof.Machine (BusAccess)

/-- The six commands a legal CMD word starts (R82). -/
inductive Command where
  | build
  | check
  | thermA
  | thermB
  | decode
  | corr
deriving DecidableEq, Repr

/-- Why a word or an access has no reading. `reservedBits`, `reservedOp` and `straySelect` are the three kinds of ILLEGAL CMD word
(R84); `outsideWindow` is an access that does not reach the block (20_memory.md R51). -/
inductive DecodeReject where
  | reservedBits
  | reservedOp
  | straySelect
  | outsideWindow
deriving DecidableEq, Repr

/-- The OP field of a CMD word (R80). -/
def cmdOp (w : Word) : BitVec 4 := w.extractLsb' 0 4

/-- The S field of a CMD word (R80). -/
def cmdSelect (w : Word) : Bool := w.getLsbD 4

/-- The RSV field of a CMD word (R80). -/
def cmdReserved (w : Word) : BitVec 27 := w.extractLsb' 5 27

/-- Decoding of a CMD word (R81), total: an ILLEGAL word is rejected by the reason of R84 that makes it so. -/
def decodeCmd (w : Word) : Except DecodeReject Command :=
  if cmdReserved w ≠ 0 then .error .reservedBits
  else if cmdOp w = 0x3 then .ok (if cmdSelect w then .thermB else .thermA)
  else if cmdOp w = 0x1 ∨ cmdOp w = 0x2 ∨ cmdOp w = 0x4 ∨ cmdOp w = 0x5 then
    if cmdSelect w then .error .straySelect
    else if cmdOp w = 0x1 then .ok .build
    else if cmdOp w = 0x2 then .ok .check
    else if cmdOp w = 0x4 then .ok .decode
    else .ok .corr
  else .error .reservedOp

/-- The instruction a command is. -/
def Command.toInstr (c : Command) : Instr :=
  match c with
  | .build => .build
  | .check => .check
  | .thermA => .thermA
  | .thermB => .thermB
  | .decode => .decode
  | .corr => .corr

/-- The bus write at offset `off` of the word `data`: a 32-bit write of a legal command word to CMD is that command, any other write is
WR (R85, R87). -/
def decodeWrite (width : Width) (off : Offset) (data : Word) : Instr :=
  if width = .word ∧ off = cmdOffset then
    match decodeCmd data with
    | .ok c => c.toInstr
    | .error _ => .wr width off data
  else .wr width off data

/-- The instruction a bus access is to a block whose window starts at `base` (R85), or why it reaches no instruction (R51). -/
def decodeAccess (base : Nat) (x : BusAccess) : Except DecodeReject Instr :=
  if base ≤ x.addr ∧ x.addr < base + 256 then
    if x.write then .ok (decodeWrite x.width (BitVec.ofNat 8 (x.addr - base)) x.data)
    else .ok (.rd x.width (BitVec.ofNat 8 (x.addr - base)))
  else .error .outsideWindow

/-- The bus access whose bits opcode_table.json numbers as `w` (log entry 12). A row of 32 bits is a CMD word. A row of another length
is a bus access: offset [7:0], direction [8] and, for a write, the data word from bit 9 on. -/
def tableAccess (base nbits w : Nat) : Option BusAccess :=
  if nbits = 32 then
    if w < 2 ^ 32 then some ⟨true, .word, base + 0x24, BitVec.ofNat 32 w⟩ else none
  else if w / 256 % 2 = 1 then
    if w < 2 ^ 41 then some ⟨true, .word, base + w % 256, BitVec.ofNat 32 (w / 512)⟩ else none
  else if w < 256 then some ⟨false, .word, base + w, 0⟩
  else none

/-- The instruction the decoder reads from a row's bits. -/
def decodeTableWord (nbits w : Nat) : Option Instr :=
  match tableAccess 0 nbits w with
  | some x =>
    match decodeAccess 0 x with
    | .ok i => some i
    | .error _ => none
  | none => none

/-- The CMD word of a command, field by field from R80 and R82: `{RSV, S, OP}`. -/
def encodeCmd (c : Command) : Word :=
  match c with
  | .build => 0#27 ++ 0#1 ++ 0x1#4
  | .check => 0#27 ++ 0#1 ++ 0x2#4
  | .thermA => 0#27 ++ 0#1 ++ 0x3#4
  | .thermB => 0#27 ++ 1#1 ++ 0x3#4
  | .decode => 0#27 ++ 0#1 ++ 0x4#4
  | .corr => 0#27 ++ 0#1 ++ 0x5#4

/-- The bus write of a command's word to CMD (R85). -/
def encodeCmdWrite (base : Nat) (c : Command) : BusAccess := ⟨true, .word, base + cmdOffset.toNat, encodeCmd c⟩

/-- The bus access of an instruction to a block whose window starts at `base` (R85); a read drives no data, which stands here as 0. -/
def encode (base : Nat) (i : Instr) : BusAccess :=
  match i with
  | .build => encodeCmdWrite base .build
  | .check => encodeCmdWrite base .check
  | .thermA => encodeCmdWrite base .thermA
  | .thermB => encodeCmdWrite base .thermB
  | .decode => encodeCmdWrite base .decode
  | .corr => encodeCmdWrite base .corr
  | .rd width off => ⟨false, width, base + off.toNat, 0⟩
  | .wr width off data => ⟨true, width, base + off.toNat, data⟩

end Sys2Proof
end

