-- ==== Sys2Proof/Machine/CalTable.lean ====
section
/-! DEFINITION. The calibration table (10_state.md R35 to R39): its implemented words, the index space over them, and the
selection of a band (42_gas_calibration.md R157). -/

namespace Sys2Proof.Machine

/-- The seven implemented words of one band entry (R38); FLAGS keeps bits [4:0] only (R37). -/
structure Band where
  lo : Word
  hi : Word
  flags : BitVec 5
  a : Word
  b : Word
  c : Word
  d : Word
deriving DecidableEq, Repr

/-- The implemented words of the table: gas slots 1 to 11 (CO to PH3, at positions 0 to 10) of 8 bands each (R35). -/
abbrev CalTable := Vector (Vector Band 8) 11

/-- FLAGS.EN: the band takes part in band selection (R39). -/
def Band.en (e : Band) : Bool := e.flags.getLsbD 0

/-- FLAGS.LO_INC: the lower bound is inclusive (R39). -/
def Band.loInc (e : Band) : Bool := e.flags.getLsbD 1

/-- FLAGS.HI_INC: the upper bound is inclusive (R39). -/
def Band.hiInc (e : Band) : Bool := e.flags.getLsbD 2

/-- FLAGS.DIV: the band divides by the denominator (R39). -/
def Band.div (e : Band) : Bool := e.flags.getLsbD 3

/-- FLAGS.OFF: the band subtracts the offset (R39). -/
def Band.off (e : Band) : Bool := e.flags.getLsbD 4

/-- Word `w` of a band entry; word 7 is not implemented and reads 0 (R37, R38). -/
def Band.word (e : Band) (w : Nat) : Word :=
  match w with
  | 0 => e.lo
  | 1 => e.hi
  | 2 => e.flags.setWidth 32
  | 3 => e.a
  | 4 => e.b
  | 5 => e.c
  | 6 => e.d
  | _ => 0

/-- A band entry with word `w` written; a write of word 7 does nothing (R37, R38). -/
def Band.setWord (e : Band) (w : Nat) (v : Word) : Band :=
  match w with
  | 0 => { e with lo := v }
  | 1 => { e with hi := v }
  | 2 => { e with flags := v.setWidth 5 }
  | 3 => { e with a := v }
  | 4 => { e with b := v }
  | 5 => { e with c := v }
  | 6 => { e with d := v }
  | _ => e

/-- The gas code `g` of a word index `{g, b, w}` (R35). -/
def calGas (i : BitVec 10) : Nat := (i.extractLsb' 6 4).toNat

/-- The band number `b` of a word index `{g, b, w}` (R35). -/
def calBand (i : BitVec 10) : Fin 8 := (i.extractLsb' 3 3).toFin

/-- The word number `w` of a word index `{g, b, w}` (R35). -/
def calWordNo (i : BitVec 10) : Nat := (i.extractLsb' 0 3).toNat

/-- The position in the table of the gas code `g`: slots 1 to 11 exist (R35). -/
def calSlot (g : Nat) : Option (Fin 11) :=
  if h : 1 ≤ g ∧ g ≤ 11 then some ⟨g - 1, by omega⟩ else none

/-- The entry `(g, b)` whose gas slot stands at position `g` (R38). -/
def CalTable.entry (t : CalTable) (g : Fin 11) (b : Fin 8) : Band := t[g][b]

/-- The table with the entry `(g, b)` replaced. -/
def CalTable.setEntry (t : CalTable) (g : Fin 11) (b : Fin 8) (e : Band) : CalTable := t.set g (t[g].set b e)

/-- `CalRead(i)` (R37): the stored word, or 0 where the word is not implemented. -/
def calRead (t : CalTable) (i : BitVec 10) : Word :=
  match calSlot (calGas i) with
  | some g => (t.entry g (calBand i)).word (calWordNo i)
  | none => 0

/-- `CalWrite(i, v)` (R37): stores `v` if word `i` is implemented, and does nothing otherwise. -/
def calWrite (t : CalTable) (i : BitVec 10) (v : Word) : CalTable :=
  match calSlot (calGas i) with
  | some g => t.setEntry g (calBand i) ((t.entry g (calBand i)).setWord (calWordNo i) v)
  | none => t

/-- Whether the temperature code `t` lies within the bounds of a band, each inclusive or exclusive by its flag (R157). -/
def Band.contains (e : Band) (t : Int) : Bool :=
  (if e.loInc then decide (e.lo.toInt ≤ t) else decide (e.lo.toInt < t)) &&
    (if e.hiInc then decide (t ≤ e.hi.toInt) else decide (t < e.hi.toInt))

/-- Whether an enabled band contains the temperature code `t` (R157). -/
def Band.accepts (e : Band) (t : Int) : Bool := e.en && e.contains t

/-- `select_band(g, t)` (R157): the least band number of the slot whose band is enabled and contains `t`. -/
def selectBand (bands : Vector Band 8) (t : Int) : Option (Fin 8) :=
  (List.finRange 8).find? fun b => bands[b].accepts t

/-- The temperature code of -30 °C, which no enabled CO band of CAL_DEFAULT contains (R163). -/
def minusThirty : Int := -1966080

/-- A band that does not accept the temperature code `t`: the band itself, or the same band disabled where it would. -/
def Band.excluding (e : Band) (t : Int) : Band :=
  if e.accepts t then { e with flags := e.flags &&& 0b11110#5 } else e

end Sys2Proof.Machine
end

