-- ==== Sys2Proof/Config.lean ====
section
/-! DEFINITION. The parameters of the spec (00_scope.md R9 to R11, 92_eei_decisions.md "Open parameters"), which a model takes as an
argument, and the one free value: the content of CAL_DEFAULT. LAT is not observable (R12) and has no place here. -/

namespace Sys2Proof

/-- The probe code and the unit of a gas, one entry of `PROBE_MAP` and `UNIT_MAP` (42_gas_calibration.md R141, R142). -/
structure GasParam where
  code : Byte
  unit : Machine.UnitCode
deriving DecidableEq, Repr

/-- The parameters: `BASE` (R9); `PROBE_MAP` and `UNIT_MAP` for the ten gases the source leaves open, H2S to PH3 in the order of
R140 (R11, R141, R142); `CAL_DEFAULT` (R10), as the implemented words it gives the table (10_state.md R36). -/
structure Config where
  base : Nat
  others : Vector GasParam 10
  calDefault : Machine.CalTable
deriving DecidableEq, Repr

/-- FREE VALUE (log entry 8). The 1024 words of `CAL_DEFAULT`, which no source gives (R7, R10, R163). -/
opaque Config.calDefaultWord : BitVec 10 → Word

end Sys2Proof
end

