-- ==== Sys2Proof/Machine/Params.lean ====
section
/-! DEFINITION. The default values of the parameters, and what the spec asks of any value of them (92_eei_decisions.md, "Open
parameters"). -/

namespace Sys2Proof.Machine

/-- The ten gases whose probe code and unit are parameters, in the order of R140. -/
def otherGases : List Gas := [.h2s, .no2, .o3, .cl2, .nh3, .h2, .hcl, .so2, .hf, .ph3]

/-- The default codes and units of the ten gases (42_gas_calibration.md R141, R142; PRESUMED, log entries 6 and 7). -/
def defaultOthers : Vector GasParam 10 :=
  #v[⟨0x03, .ppm⟩, ⟨0x2C, .ppm⟩, ⟨0x2A, .ppm⟩, ⟨0x31, .ppm⟩, ⟨0x02, .ppm⟩,
     ⟨0x06, .ppm⟩, ⟨0x2E, .ppm⟩, ⟨0x2B, .ppm⟩, ⟨0x33, .ppm⟩, ⟨0x45, .ppm⟩]

/-- The word index `{g, b, w}` of the gas slot at position `g` (10_state.md R35). -/
def calIndex (g : Fin 11) (b : Fin 8) (w : Fin 8) : BitVec 10 := BitVec.ofNat 10 (64 * (g + 1) + 8 * b + w)

/-- The band entry that the words of a table give, FLAGS reduced to bits [4:0] (10_state.md R36, R38). -/
def bandOfWords (f : BitVec 10 → Word) (g : Fin 11) (b : Fin 8) : Band :=
  ⟨f (calIndex g b 0), f (calIndex g b 1), (f (calIndex g b 2)).setWidth 5, f (calIndex g b 3), f (calIndex g b 4),
    f (calIndex g b 5), f (calIndex g b 6)⟩

/-- The implemented words of a table (10_state.md R36). -/
def tableOfWords (f : BitVec 10 → Word) : CalTable := Vector.ofFn fun g => Vector.ofFn fun b => bandOfWords f g b

/-- A table that meets 42_gas_calibration.md R163(a): no enabled CO band contains -30 °C. A table that meets it already is unchanged. -/
def admitTable (t : CalTable) : CalTable := t.set 0 (Vector.ofFn fun b => (t.entry 0 b).excluding minusThirty)

/-- The parameters of `State.reset` (log entries 5 to 8). -/
def defaultConfig : Config :=
  ⟨0, defaultOthers, admitTable (tableOfWords Config.calDefaultWord)⟩

/-- R163(a): under `CAL_DEFAULT` no enabled CO band contains -30 °C. -/
def tableAdmitted (t : CalTable) : Bool := (selectBand t[0] minusThirty).isNone

/-- The constraints on the parameters: BASE is word aligned; the twelve codes are distinct and none is 0xFF (R141); every known gas has
unit "%" or "ppm" (R142); R163(a). -/
def configOk (c : Config) : Bool :=
  decide (c.base % 4 = 0) && decide ((0x05 :: 0x04 :: 0xFF :: c.others.toList.map GasParam.code).Nodup) &&
    c.others.toList.all (fun p => p.unit != .none) && tableAdmitted c.calDefault

end Sys2Proof.Machine
end

