-- ==== Sys2Proof/Machine/State.lean ====
section
/-! DEFINITION. The state (10_state.md R20 to R43), the reasons a step can stop, and the state after reset (70_reset_and_hazards.md
R200 to R202). -/

namespace Sys2Proof.Machine

/-- The block's state, one field per field of the registers of R20, the calibration table (R35), and, last, three fields of the model's
own: the parameters, which no step writes (log entry 4), the bus events still to come (log entry 1), and the bus's last answer to the
host (log entry 2). -/
structure State where
  /-- FB0 to FB8 (R22). -/
  fb : Frame
  /-- STATUS.VALID (R24). -/
  valid : Bool
  /-- STATUS.TVALID (R24). -/
  tvalid : Bool
  /-- STATUS.ERR (R24, R181). -/
  err : ErrCode
  /-- CTRL.TC_EN (R25). -/
  tcEn : Bool
  /-- CKSUM (R26). -/
  cksum : Byte
  /-- TADC (R27). -/
  tadc : BitVec 16
  /-- TEMP, s32 Q16.16 (R28). -/
  temp : Word
  /-- RAWCONC.MAG (R29). -/
  mag : BitVec 16
  /-- RAWCONC.RES, the effective resolution code 0, 1 or 2 (R29). -/
  res : Fin 3
  /-- GAS.PROBE (R30). -/
  probe : Byte
  /-- GAS.GASID (R30, R140). -/
  gas : Gas
  /-- GAS.UNIT (R30, R142). -/
  unit : UnitCode
  /-- CONC, u32 Q16.16 (R31). -/
  conc : Word
  /-- CAL_IDX.IDX (R32). -/
  calIdx : BitVec 10
  /-- The implemented words of the calibration table (R35). -/
  cal : CalTable
  /-- The parameters (R9 to R11). -/
  cfg : Config
  /-- The bus events the outside world has still to deliver, the next one first. -/
  pending : List HostEvent
  /-- The bus's answer to the last access the block served. -/
  response : BusResponse
deriving DecidableEq, Repr

/-- A reason to stop with a fault. There is none: the block never traps or halts (60_exceptions.md R182), every outcome of R181 is an
ordinary value of state, and a bus error is a step that leaves the state unchanged (R194). No meaning raises one, which is safe. -/
inductive Fault where
deriving DecidableEq, Repr

/-- A reason to give no meaning. -/
inductive Refusal where
  /-- An instruction whose meaning is not written: raised by a refused arm of `exec` alone, and by none now. Safe. -/
  | notModelled (mnemonic : String)
deriving DecidableEq, Repr

/-- The sentinel of a singular conversion, and TEMP at reset (41_thermistor.md R125; 10_state.md R28). -/
def sentinel : Word := 0x80000000

/-- The state right after reset under the parameters `cfg` (70_reset_and_hazards.md R201, R202). -/
def State.resetWith (cfg : Config) : State where
  fb := Vector.replicate 9 0
  valid := false
  tvalid := false
  err := .ok
  tcEn := false
  cksum := 0
  tadc := 0
  temp := sentinel
  mag := 0
  res := 0
  probe := 0
  gas := .unknown
  unit := .none
  conc := 0
  calIdx := 0
  cal := cfg.calDefault
  cfg := cfg
  pending := []
  response := .none

/-- The state right after reset under the default parameters (R201, R202). -/
def State.reset : State := State.resetWith defaultConfig

end Sys2Proof.Machine
end

