-- ==== Sys2Proof/Machine/Flags.lean ====
section
/-! DEFINITION. The flags: the codes of STATUS.ERR, GAS.GASID and GAS.UNIT, the outcome each command reports (60_exceptions.md R181,
R186), and STATUS as a word (10_state.md R24). -/

namespace Sys2Proof.Machine

/-- The 4-bit code of an outcome (R181). -/
def ErrCode.code (e : ErrCode) : BitVec 4 :=
  match e with
  | .ok => 0
  | .illegal => 1
  | .badsum => 2
  | .singular => 3
  | .rescode => 4
  | .unkgas => 5
  | .notemp => 6
  | .noband => 7
  | .divzero => 8
  | .clamp => 9
  | .sat => 10

/-- The 4-bit gas identity code (42_gas_calibration.md R140). -/
def Gas.code (g : Gas) : BitVec 4 :=
  match g with
  | .o2 => 0
  | .co => 1
  | .h2s => 2
  | .no2 => 3
  | .o3 => 4
  | .cl2 => 5
  | .nh3 => 6
  | .h2 => 7
  | .hcl => 8
  | .so2 => 9
  | .hf => 10
  | .ph3 => 11
  | .unknown => 15

/-- The 2-bit unit code (42_gas_calibration.md R142). -/
def UnitCode.code (u : UnitCode) : BitVec 2 :=
  match u with
  | .none => 0
  | .percent => 1
  | .ppm => 2

/-- The outcome of CHECK (40_frame_checksum.md R106). -/
def checkErr (valid : Bool) : ErrCode := if valid then .ok else .badsum

/-- The outcome of DECODE: RESCODE before UNKGAS (42_gas_calibration.md R151; R186). -/
def decodeErr (resByte : Byte) (g : Gas) : ErrCode :=
  if 2 < resByte.toNat then .rescode
  else if g = .unknown then .unkgas
  else .ok

/-- STATUS: VALID at bit 0, TVALID at bit 1, ERR at bits [7:4], the rest 0 (R24). -/
def statusWord (valid tvalid : Bool) (e : ErrCode) : Word :=
  0#24 ++ e.code ++ 0#2 ++ BitVec.ofBool tvalid ++ BitVec.ofBool valid

end Sys2Proof.Machine
end

