-- ==== Sys2Proof/Machine/Operands.lean ====
section
/-! DEFINITION. The operand forms: the 16-bit fields of a frame (20_memory.md R52; 30_encoding.md R83, R92), and the register a byte
offset names (10_state.md R20). -/

namespace Sys2Proof.Machine

/-- The big-endian field of two frame bytes (R52). -/
def be16 (hi lo : Byte) : BitVec 16 := hi ++ lo

/-- THERM's operand for S = 0: the code at FB2:FB3 (R83). -/
def thermCodeA (fb : Frame) : BitVec 16 := be16 fb[2] fb[3]

/-- THERM's operand for S = 1: the code at FB6:FB7 (R83). -/
def thermCodeB (fb : Frame) : BitVec 16 := be16 fb[6] fb[7]

/-- DECODE's magnitude, at FB2:FB3 (R92; 42_gas_calibration.md R151). -/
def magField (fb : Frame) : BitVec 16 := be16 fb[2] fb[3]

/-- DECODE's probe byte, FB4 (R92). -/
def probeField (fb : Frame) : Byte := fb[4]

/-- DECODE's resolution byte, FB5 (R92). -/
def resField (fb : Frame) : Byte := fb[5]

/-- The registers of the window (R20). -/
inductive Reg where
  | fb (k : Fin 9)
  | cmd
  | status
  | ctrl
  | cksum
  | tadc
  | temp
  | rawconc
  | gas
  | conc
  | calIdx
  | calData
  | reserved
deriving DecidableEq, Repr

/-- The register at a word-aligned byte offset (R20, R34). -/
def regAt (off : Offset) : Reg :=
  if h : off.toNat / 4 < 9 then .fb ⟨off.toNat / 4, h⟩
  else
    match off.toNat / 4 with
    | 9 => .cmd
    | 10 => .status
    | 11 => .ctrl
    | 12 => .cksum
    | 13 => .tadc
    | 14 => .temp
    | 15 => .rawconc
    | 16 => .gas
    | 17 => .conc
    | 18 => .calIdx
    | 19 => .calData
    | _ => .reserved

/-- Whether the bus accepts an access: 32 bits wide and word aligned (20_memory.md R56, R57). -/
def accepted (width : Width) (off : Offset) : Bool := width == .word && off.toNat % 4 == 0

end Sys2Proof.Machine
end

