-- ==== Sys2Proof/Machine/Ops.lean ====
section
/-! DEFINITION. The named operations over the state: the outcome code (60_exceptions.md R180), the registers as words (20_memory.md R54),
the plain register writes (R55), the bus's answers, the bus error (R56, R187), and reset (70_reset_and_hazards.md R200, R204). The block
has no exception entry and no return (60_exceptions.md R190): the bus error is the only refusal of an access (R182). -/

namespace Sys2Proof.Machine

/-- `set_err(e)` (R180). -/
def setErr (e : ErrCode) (s : State) : State := { s with err := e }

/-- The bus completes an access with the answer `r`. -/
def respond (r : BusResponse) (s : State) : State := { s with response := r }

/-- A command's CMD write completes on the bus (20_memory.md R63) with the outcome `e`, its `set_err` being its last step (R180). -/
def complete (e : ErrCode) (s : State) : State := respond .written (setErr e s)

/-- `raise BusError()` for a read: the error response with data 0, and no change of the block (R56). -/
def busErrorRead (s : State) : State := respond (.readError 0) s

/-- `raise BusError()` for a write: the error response, and no change of the block (R56). -/
def busErrorWrite (s : State) : State := respond .writeError s

/-- The value a read of a register returns (R54; 10_state.md R22 to R34). -/
def readReg (s : State) (r : Reg) : Word :=
  match r with
  | .fb k => s.fb[k].setWidth 32
  | .cmd => 0
  | .status => statusWord s.valid s.tvalid s.err
  | .ctrl => (BitVec.ofBool s.tcEn).setWidth 32
  | .cksum => s.cksum.setWidth 32
  | .tadc => s.tadc.setWidth 32
  | .temp => s.temp
  | .rawconc => 0#14 ++ BitVec.ofNat 2 s.res ++ s.mag
  | .gas => 0#18 ++ s.unit.code ++ s.gas.code ++ s.probe
  | .conc => s.conc
  | .calIdx => s.calIdx.setWidth 32
  | .calData => calRead s.cal s.calIdx
  | .reserved => 0

/-- The effect of a write to a register other than CMD (R55): read-only and reserved registers ignore it (10_state.md R34). -/
def writeReg (s : State) (r : Reg) (v : Word) : State :=
  match r with
  | .fb k => { s with fb := s.fb.set k (v.setWidth 8) }
  | .ctrl => { s with tcEn := v.getLsbD 0 }
  | .temp => { s with temp := v, tvalid := true }
  | .calIdx => { s with calIdx := v.setWidth 10 }
  | .calData => { s with cal := calWrite s.cal s.calIdx v }
  | .cmd => s
  | .status => s
  | .cksum => s
  | .tadc => s
  | .rawconc => s
  | .gas => s
  | .conc => s
  | .reserved => s

/-- The block's reset input (70_reset_and_hazards.md R200 to R202): every field takes its reset value under the same parameters; what the
outside world has still to deliver is no part of the block. -/
def applyReset (s : State) : State := { State.resetWith s.cfg with pending := s.pending }

end Sys2Proof.Machine
end

