-- ==== Sys2Proof/Machine/FrameCodec.lean ====
section
/-! DEFINITION. The FrameCodec unit: the checksum, BUILD and CHECK (40_frame_checksum.md). -/

namespace Sys2Proof.Machine

/-- The sum of bytes 1 to 7 of a frame (R100). -/
def frameSum (fb : Frame) : Nat :=
  fb[1].toNat + fb[2].toNat + fb[3].toNat + fb[4].toNat + fb[5].toNat + fb[6].toNat + fb[7].toNat

/-- `cks` of bytes 1 to 7 of a frame (R100). -/
def cks (fb : Frame) : Byte := BitVec.ofNat 8 ((0x100 - frameSum fb % 256) % 256)

/-- The frame BUILD leaves: sync, device class, and the checksum of the frame so made (R104). -/
def builtFrame (fb : Frame) : Frame :=
  let f := (fb.set 0 0xFF).set 1 0x01
  f.set 8 (cks f)

/-- BUILD (R104). -/
def buildFrame (s : State) : State :=
  complete .ok { s with fb := builtFrame s.fb, cksum := cks (builtFrame s.fb) }

/-- CHECK (R106). -/
def checkFrame (s : State) : State :=
  complete (checkErr (cks s.fb == s.fb[8])) { s with cksum := cks s.fb, valid := cks s.fb == s.fb[8] }

/-- BUILD (R104). -/
def execBuild (s : State) : Host.Outcome State Fault Refusal := .next (buildFrame s)

/-- CHECK (R106). -/
def execCheck (s : State) : Host.Outcome State Fault Refusal := .next (checkFrame s)

end Sys2Proof.Machine
end

