-- ==== Sys2Proof/Machine/Frac.lean ====
section
/-! DEFINITION. Exact fractions of integers, in which CORR is computed (00_scope.md R14; 42_gas_calibration.md R154), and rounding to
nearest, ties to even (R15). Reference.lean has the same over ℚ. -/

namespace Sys2Proof.Machine

/-- The exact value `num / den`; every fraction the model forms has a positive denominator. -/
structure Frac where
  num : Int
  den : Nat
deriving DecidableEq, Repr

/-- The fraction of a natural number. -/
def Frac.ofNat (n : Nat) : Frac := ⟨n, 1⟩

/-- `x - y`. -/
def Frac.sub (x y : Frac) : Frac := ⟨x.num * y.den - y.num * x.den, x.den * y.den⟩

/-- `x / y` for `y ≠ 0`; the sign of `y` moves to the numerator. -/
def Frac.div (x y : Frac) : Frac := ⟨x.num * y.den * y.num.sign, x.den * y.num.natAbs⟩

/-- `rne(n / d)` for a positive `d` (R15): the nearest integer, and of two equally near the even one. -/
def rneDiv (n : Int) (d : Nat) : Int :=
  let q := n / d
  let r := n % d
  if 2 * r < d then q
  else if (d : Int) < 2 * r then q + 1
  else if q % 2 = 0 then q
  else q + 1

/-- `Q16(x) = rne(x * 65536)` (R15). -/
def Frac.q16 (x : Frac) : Int := rneDiv (x.num * 65536) x.den

end Sys2Proof.Machine
end

