-- ==== Sys2Proof/Machine/GasCorr.lean ====
section
/-! DEFINITION. The calibration correction: CORR (42_gas_calibration.md R153 to R165), exact until its one rounding. -/

namespace Sys2Proof.Machine

/-- The position in the calibration table of a gas of CO to PH3 (R140; 10_state.md R35); O2 and Unknown have no slot (R155). -/
def Gas.slot (g : Gas) : Option (Fin 11) := calSlot g.code.toNat

/-- `raw = MAG / 10^RES` (R150). -/
def rawConc (mag : BitVec 16) (res : Fin 3) : Frac := ⟨mag.toNat, 10 ^ res.val⟩

/-- The linear term `slope * T + intercept` of a band at the temperature code `t`, the coefficients in units of 10^-6 and `T = t / 65536`
(R154, R162; 10_state.md R38). -/
def linearTerm (slope intercept : Word) (t : Int) : Frac := ⟨slope.toInt * t + intercept.toInt * 65536, 65536 * 1000000⟩

/-- The exact value of a band whose denominator, if it divides, is not 0 (R154): divide first, then subtract. -/
def bandValue (e : Band) (raw : Frac) (t : Int) : Frac :=
  let q1 := if e.div then raw.div (linearTerm e.a e.b t) else raw
  if e.off then q1.sub (linearTerm e.c e.d t) else q1

/-- The value and the outcome of the selected band (R156): DIVZERO (R158), then CLAMP (R159), else OK. -/
def bandResult (e : Band) (raw : Frac) (t : Int) : Frac × ErrCode :=
  if e.div ∧ (linearTerm e.a e.b t).num = 0 then (Frac.ofNat 0, .divzero)
  else if (bandValue e raw t).num < 0 then (Frac.ofNat 0, .clamp)
  else (bandValue e raw t, .ok)

/-- The exact value and the outcome before rounding (R156), in its order: disabled, O2, UNKGAS, NOTEMP, NOBAND, the band. -/
def corrValue (s : State) : Frac × ErrCode :=
  if s.tcEn = false then (rawConc s.mag s.res, .ok)
  else if s.gas = .o2 then (rawConc s.mag s.res, .ok)
  else
    match s.gas.slot with
    | none => (Frac.ofNat 0, .unkgas)
    | some g =>
      if s.tvalid = false then (Frac.ofNat 0, .notemp)
      else
        match selectBand s.cal[g] s.temp.toInt with
        | none => (Frac.ofNat 0, .noband)
        | some b => bandResult (s.cal.entry g b) (rawConc s.mag s.res) s.temp.toInt

/-- The one rounding, and the saturation of CONC (R160). -/
def roundConc (v : Frac × ErrCode) : Word × ErrCode :=
  if 0xFFFFFFFF < v.1.q16 then (0xFFFFFFFF, .sat) else (BitVec.ofInt 32 v.1.q16, v.2)

/-- CORR (R156). -/
def correct (s : State) : State :=
  let q := roundConc (corrValue s)
  complete q.2 { s with conc := q.1 }

/-- CORR (R156). -/
def execCorr (s : State) : Host.Outcome State Fault Refusal := .next (correct s)

end Sys2Proof.Machine
end

