-- ==== Sys2Proof/Machine/GasDecode.lean ====
section
/-! DEFINITION. The response-field decoder and the probe classification: DECODE (42_gas_calibration.md R140 to R151). -/

namespace Sys2Proof.Machine

/-- The gas and the unit of the first entry with the code `p`. -/
def findProbe (entries : List (Gas × GasParam)) (p : Byte) : Option (Gas × UnitCode) :=
  match entries with
  | [] => none
  | (g, e) :: rest => if e.code = p then some (g, e.unit) else findProbe rest p

/-- `classify(p)` (R143): the source's three codes (R141), then the parameter's ten, and Unknown without a unit for every other byte. -/
def classify (cfg : Config) (p : Byte) : Gas × UnitCode :=
  if p = 0x05 then (.o2, .percent)
  else if p = 0x04 then (.co, .ppm)
  else if p = 0xFF then (.unknown, .none)
  else (findProbe (otherGases.zip cfg.others.toList) p).getD (.unknown, .none)

/-- The effective resolution code of a resolution byte: 3 to 255 count as 0 (R150). -/
def resolution (rb : Byte) : Fin 3 :=
  match rb.toNat with
  | 1 => 1
  | 2 => 2
  | _ => 0

/-- DECODE (R151). -/
def decodeResponse (s : State) : State :=
  let g := classify s.cfg (probeField s.fb)
  complete (decodeErr (resField s.fb) g.1)
    { s with
      mag := magField s.fb, res := resolution (resField s.fb), probe := probeField s.fb, gas := g.1, unit := g.2 }

/-- DECODE (R151). -/
def execDecode (s : State) : Host.Outcome State Fault Refusal := .next (decodeResponse s)

end Sys2Proof.Machine
end

