-- ==== Sys2Proof/Machine/ThermRom.lean ====
section
/-! DEFINITION. The results of THERM for the converting codes 1 to 1023 as s32 Q16.16 codes, in order: the table of 95_test_vectors.md
section V2-ROM, which 41_thermistor.md R126 and R127 let a model take as the definition (log entry 10). Each row has 32 codes. -/

namespace Sys2Proof.Machine

/-- The results for the codes 1 to 32. -/
def thermRow00 : List Int :=
  [32369885, 25528708, 22323417, 20319999, 18896997, 17809614, 16938323, 16216536, 15603660, 15073273, 14607287, 14192826,
   13820418, 13482916, 13174799, 12891723, 12630215, 12387456, 12161128, 11949307, 11750378, 11562973, 11385924, 11218228,
   11059014, 10907526, 10763101, 10625155, 10493171, 10366691, 10245303, 10128643]

/-- The results for the codes 33 to 64. -/
def thermRow01 : List Int :=
  [10016378, 9908213, 9803878, 9703128, 9605741, 9511514, 9420261, 9331812, 9246010, 9162711, 9081781, 9003099, 8926549,
   8852026, 8779431, 8708674, 8639667, 8572333, 8506595, 8442384, 8379635, 8318285, 8258277, 8199558, 8142074, 8085778,
   8030624, 7976569, 7923572, 7871594, 7820599, 7770552]

/-- The results for the codes 65 to 96. -/
def thermRow02 : List Int :=
  [7721420, 7673171, 7625775, 7579205, 7533433, 7488433, 7444180, 7400652, 7357825, 7315679, 7274192, 7233346, 7193121,
   7153499, 7114464, 7075998, 7038085, 7000711, 6963861, 6927521, 6891677, 6856316, 6821426, 6786994, 6753010, 6719461,
   6686337, 6653628, 6621323, 6589413, 6557888, 6526740]

/-- The results for the codes 97 to 128. -/
def thermRow03 : List Int :=
  [6495960, 6465539, 6435469, 6405742, 6376351, 6347287, 6318545, 6290116, 6261995, 6234175, 6206649, 6179411, 6152455,
   6125776, 6099368, 6073225, 6047343, 6021715, 5996338, 5971206, 5946314, 5921658, 5897234, 5873037, 5849062, 5825307,
   5801766, 5778436, 5755313, 5732394, 5709674, 5687150]

/-- The results for the codes 129 to 160. -/
def thermRow04 : List Int :=
  [5664820, 5642678, 5620723, 5598952, 5577360, 5555945, 5534704, 5513634, 5492732, 5471996, 5451423, 5431010, 5410755,
   5390654, 5370707, 5350910, 5331261, 5311758, 5292398, 5273180, 5254100, 5235158, 5216351, 5197677, 5179134, 5160720,
   5142433, 5124272, 5106234, 5088318, 5070523, 5052846]

/-- The results for the codes 161 to 192. -/
def thermRow05 : List Int :=
  [5035285, 5017840, 5000508, 4983288, 4966179, 4949179, 4932286, 4915499, 4898817, 4882238, 4865761, 4849384, 4833106,
   4816927, 4800844, 4784856, 4768963, 4753163, 4737454, 4721836, 4706308, 4690868, 4675515, 4660249, 4645067, 4629970,
   4614956, 4600024, 4585173, 4570402, 4555711, 4541097]

/-- The results for the codes 193 to 224. -/
def thermRow06 : List Int :=
  [4526561, 4512101, 4497717, 4483408, 4469172, 4455010, 4440919, 4426900, 4412951, 4399071, 4385261, 4371519, 4357844,
   4344236, 4330693, 4317216, 4303803, 4290454, 4277168, 4263945, 4250783, 4237682, 4224641, 4211660, 4198738, 4185875,
   4173070, 4160322, 4147630, 4134995, 4122415, 4109890]

/-- The results for the codes 225 to 256. -/
def thermRow07 : List Int :=
  [4097419, 4085002, 4072639, 4060328, 4048069, 4035862, 4023707, 4011602, 3999546, 3987541, 3975585, 3963677, 3951818,
   3940006, 3928242, 3916524, 3904853, 3893228, 3881648, 3870113, 3858623, 3847176, 3835774, 3824415, 3813099, 3801825,
   3790594, 3779404, 3768256, 3757149, 3746082, 3735056]

/-- The results for the codes 257 to 288. -/
def thermRow08 : List Int :=
  [3724069, 3713122, 3702214, 3691345, 3680514, 3669722, 3658967, 3648249, 3637569, 3626925, 3616318, 3605747, 3595211,
   3584711, 3574246, 3563816, 3553421, 3543060, 3532733, 3522439, 3512179, 3501952, 3491757, 3481595, 3471466, 3461368,
   3451302, 3441267, 3431264, 3421291, 3411349, 3401438]

/-- The results for the codes 289 to 320. -/
def thermRow09 : List Int :=
  [3391556, 3381705, 3371883, 3362090, 3352326, 3342592, 3332886, 3323208, 3313559, 3303937, 3294344, 3284777, 3275238,
   3265726, 3256241, 3246783, 3237350, 3227944, 3218564, 3209210, 3199881, 3190578, 3181300, 3172047, 3162818, 3153614,
   3144434, 3135279, 3126147, 3117040, 3107956, 3098895]

/-- The results for the codes 321 to 352. -/
def thermRow10 : List Int :=
  [3089857, 3080843, 3071851, 3062882, 3053936, 3045012, 3036110, 3027230, 3018372, 3009535, 3000720, 2991927, 2983154,
   2974403, 2965672, 2956962, 2948272, 2939603, 2930954, 2922325, 2913716, 2905126, 2896557, 2888006, 2879475, 2870963,
   2862470, 2853996, 2845541, 2837104, 2828686, 2820285]

/-- The results for the codes 353 to 384. -/
def thermRow11 : List Int :=
  [2811903, 2803539, 2795193, 2786865, 2778554, 2770261, 2761985, 2753726, 2745485, 2737260, 2729052, 2720861, 2712687,
   2704528, 2696387, 2688261, 2680152, 2672058, 2663980, 2655918, 2647872, 2639841, 2631826, 2623826, 2615840, 2607870,
   2599915, 2591975, 2584049, 2576138, 2568242, 2560360]

/-- The results for the codes 385 to 416. -/
def thermRow12 : List Int :=
  [2552492, 2544638, 2536798, 2528973, 2521161, 2513363, 2505578, 2497807, 2490050, 2482305, 2474574, 2466856, 2459152,
   2451460, 2443781, 2436114, 2428461, 2420820, 2413191, 2405575, 2397971, 2390379, 2382799, 2375231, 2367675, 2360131,
   2352599, 2345078, 2337569, 2330071, 2322585, 2315110]

/-- The results for the codes 417 to 448. -/
def thermRow13 : List Int :=
  [2307646, 2300193, 2292751, 2285320, 2277900, 2270491, 2263092, 2255704, 2248327, 2240960, 2233603, 2226257, 2218921,
   2211594, 2204278, 2196972, 2189676, 2182390, 2175113, 2167846, 2160588, 2153340, 2146101, 2138872, 2131652, 2124441,
   2117239, 2110047, 2102863, 2095688, 2088522, 2081365]

/-- The results for the codes 449 to 480. -/
def thermRow14 : List Int :=
  [2074216, 2067076, 2059944, 2052821, 2045707, 2038600, 2031502, 2024412, 2017330, 2010257, 2003191, 1996133, 1989083,
   1982040, 1975006, 1967979, 1960959, 1953947, 1946942, 1939945, 1932955, 1925973, 1918997, 1912029, 1905067, 1898113,
   1891165, 1884225, 1877291, 1870364, 1863443, 1856529]

/-- The results for the codes 481 to 512. -/
def thermRow15 : List Int :=
  [1849622, 1842721, 1835826, 1828938, 1822056, 1815181, 1808311, 1801448, 1794590, 1787739, 1780893, 1774054, 1767220,
   1760392, 1753569, 1746753, 1739941, 1733136, 1726335, 1719540, 1712751, 1705966, 1699187, 1692413, 1685644, 1678881,
   1672122, 1665368, 1658619, 1651874, 1645135, 1638400]

/-- The results for the codes 513 to 544. -/
def thermRow16 : List Int :=
  [1631670, 1624944, 1618223, 1611507, 1604794, 1598087, 1591383, 1584684, 1577989, 1571298, 1564611, 1557928, 1551249,
   1544574, 1537903, 1531236, 1524572, 1517913, 1511257, 1504604, 1497955, 1491309, 1484667, 1478029, 1471393, 1464761,
   1458132, 1451507, 1444884, 1438265, 1431648, 1425035]

/-- The results for the codes 545 to 576. -/
def thermRow17 : List Int :=
  [1418424, 1411816, 1405211, 1398609, 1392009, 1385412, 1378818, 1372226, 1365637, 1359050, 1352465, 1345883, 1339303,
   1332726, 1326150, 1319577, 1313005, 1306436, 1299869, 1293303, 1286740, 1280178, 1273618, 1267060, 1260503, 1253948,
   1247394, 1240842, 1234292, 1227743, 1221195, 1214648]

/-- The results for the codes 577 to 608. -/
def thermRow18 : List Int :=
  [1208103, 1201559, 1195016, 1188474, 1181933, 1175393, 1168854, 1162316, 1155779, 1149242, 1142706, 1136171, 1129637,
   1123103, 1116569, 1110036, 1103504, 1096971, 1090439, 1083908, 1077376, 1070845, 1064313, 1057782, 1051251, 1044719,
   1038188, 1031656, 1025124, 1018592, 1012060, 1005527]

/-- The results for the codes 609 to 640. -/
def thermRow19 : List Int :=
  [998993, 992460, 985925, 979390, 972855, 966318, 959781, 953243, 946704, 940164, 933624, 927082, 920539, 913995, 907450,
   900903, 894355, 887806, 881256, 874703, 868150, 861595, 855038, 848479, 841919, 835356, 828792, 822226, 815658, 809088,
   802516, 795942]

/-- The results for the codes 641 to 672. -/
def thermRow20 : List Int :=
  [789365, 782786, 776205, 769622, 763036, 756447, 749856, 743262, 736666, 730067, 723465, 716860, 710252, 703641, 697027,
   690410, 683790, 677166, 670540, 663909, 657276, 650639, 643998, 637354, 630706, 624054, 617399, 610739, 604076, 597409,
   590737, 584062]

/-- The results for the codes 673 to 704. -/
def thermRow21 : List Int :=
  [577382, 570698, 564009, 557317, 550619, 543918, 537211, 530500, 523784, 517063, 510338, 503607, 496872, 490131, 483385,
   476634, 469878, 463116, 456349, 449576, 442797, 436013, 429223, 422428, 415626, 408818, 402005, 395185, 388359, 381526,
   374687, 367842]

/-- The results for the codes 705 to 736. -/
def thermRow22 : List Int :=
  [360990, 354132, 347267, 340395, 333516, 326631, 319738, 312838, 305931, 299017, 292095, 285166, 278230, 271285, 264333,
   257374, 250406, 243430, 236446, 229454, 222454, 215446, 208429, 201403, 194369, 187326, 180275, 173214, 166144, 159066,
   151978, 144880]

/-- The results for the codes 737 to 768. -/
def thermRow23 : List Int :=
  [137774, 130657, 123531, 116396, 109250, 102095, 94930, 87754, 80568, 73372, 66165, 58948, 51720, 44481, 37232, 29971,
   22699, 15416, 8121, 815, -6503, -13832, -21174, -28527, -35893, -43270, -50661, -58063, -65479, -72907, -80348, -87802]

/-- The results for the codes 769 to 800. -/
def thermRow24 : List Int :=
  [-95269, -102750, -110244, -117752, -125273, -132808, -140357, -147921, -155499, -163091, -170698, -178319, -185956,
   -193607, -201274, -208956, -216654, -224368, -232097, -239842, -247604, -255382, -263176, -270987, -278816, -286661,
   -294523, -302403, -310301, -318216, -326149, -334101]

/-- The results for the codes 801 to 832. -/
def thermRow25 : List Int :=
  [-342070, -350059, -358066, -366092, -374137, -382202, -390286, -398390, -406514, -414659, -422823, -431009, -439215,
   -447442, -455691, -463961, -472253, -480567, -488903, -497262, -505644, -514049, -522476, -530928, -539403, -547903,
   -556426, -564974, -573548, -582146, -590770, -599419]

/-- The results for the codes 833 to 864. -/
def thermRow26 : List Int :=
  [-608095, -616797, -625525, -634280, -643063, -651873, -660712, -669578, -678473, -687396, -696349, -705332, -714344,
   -723387, -732460, -741565, -750700, -759868, -769067, -778300, -787565, -796863, -806195, -815561, -824962, -834398,
   -843869, -853377, -862920, -872501, -882118, -891774]

/-- The results for the codes 865 to 896. -/
def thermRow27 : List Int :=
  [-901467, -911200, -920972, -930783, -940635, -950528, -960462, -970438, -980456, -990518, -1000623, -1010773, -1020967,
   -1031207, -1041493, -1051826, -1062206, -1072634, -1083111, -1093638, -1104215, -1114842, -1125521, -1136253, -1147038,
   -1157877, -1168770, -1179720, -1190725, -1201788, -1212909, -1224090]

/-- The results for the codes 897 to 928. -/
def thermRow28 : List Int :=
  [-1235330, -1246631, -1257994, -1269420, -1280910, -1292464, -1304085, -1315773, -1327529, -1339354, -1351250, -1363217,
   -1375257, -1387371, -1399561, -1411827, -1424171, -1436594, -1449099, -1461685, -1474356, -1487111, -1499954, -1512885,
   -1525906, -1539019, -1552225, -1565527, -1578926, -1592425, -1606024, -1619726]

/-- The results for the codes 929 to 960. -/
def thermRow29 : List Int :=
  [-1633534, -1647449, -1661474, -1675610, -1689861, -1704229, -1718715, -1733323, -1748056, -1762916, -1777906, -1793029,
   -1808288, -1823686, -1839227, -1854913, -1870749, -1886738, -1902883, -1919190, -1935661, -1952301, -1969114, -1986105,
   -2003279, -2020641, -2038195, -2055947, -2073903, -2092069, -2110450, -2129053]

/-- The results for the codes 961 to 992. -/
def thermRow30 : List Int :=
  [-2147884, -2166951, -2186261, -2205821, -2225639, -2245725, -2266085, -2286731, -2307671, -2328915, -2350475, -2372362,
   -2394588, -2417165, -2440107, -2463429, -2487144, -2511270, -2535824, -2560822, -2586286, -2612234, -2638691, -2665678,
   -2693222, -2721349, -2750089, -2779474, -2809538, -2840318, -2871854, -2904190]

/-- The results for the codes 993 to 1023. -/
def thermRow31 : List Int :=
  [-2937374, -2971458, -3006499, -3042561, -3079714, -3118035, -3157610, -3198536, -3240919, -3284884, -3330567, -3378126,
   -3427742, -3479625, -3534016, -3591203, -3651524, -3715386, -3783280, -3855814, -3933746, -4018041, -4109958, -4211184,
   -4324051, -4451929, -4599958, -4776583, -4997272, -5295719, -5774698]

/-- The 32 rows. -/
def thermRows : List (List Int) :=
  [thermRow00, thermRow01, thermRow02, thermRow03, thermRow04, thermRow05, thermRow06, thermRow07] ++
    [thermRow08, thermRow09, thermRow10, thermRow11, thermRow12, thermRow13, thermRow14, thermRow15] ++
    [thermRow16, thermRow17, thermRow18, thermRow19, thermRow20, thermRow21, thermRow22, thermRow23] ++
    [thermRow24, thermRow25, thermRow26, thermRow27, thermRow28, thermRow29, thermRow30, thermRow31]

/-- The result for the code `k + 1`. -/
def thermRomAt (k : Nat) : Option Int := (thermRows[k / 32]?).bind fun row => row[k % 32]?

end Sys2Proof.Machine
end

