-- ==== Sys2Proof/Machine/Thermistor.lean ====
section
/-! DEFINITION. The Thermistor unit: THERM.A and THERM.B (41_thermistor.md). -/

namespace Sys2Proof.Machine

/-- `Q16(T_C(c))` for a converting code, none for a singular one (R122, R123). -/
def thermCelsius (c : Nat) : Option Int := if 1 ≤ c ∧ c ≤ 1023 then thermRomAt (c - 1) else none

/-- THERM on the code `c` (R124, R125). -/
def convertTemp (c : BitVec 16) (s : State) : State :=
  match thermCelsius c.toNat with
  | some q => complete .ok { s with tadc := c, temp := BitVec.ofInt 32 q, tvalid := true }
  | none => complete .singular { s with tadc := c, temp := sentinel, tvalid := false }

/-- THERM.A (R124, S = 0). -/
def execThermA (s : State) : Host.Outcome State Fault Refusal := .next (convertTemp (thermCodeA s.fb) s)

/-- THERM.B (R124, S = 1). -/
def execThermB (s : State) : Host.Outcome State Fault Refusal := .next (convertTemp (thermCodeB s.fb) s)

end Sys2Proof.Machine
end

