-- ==== Sys2Proof/Machine/Bus.lean ====
section
/-! DEFINITION. The host's bus accesses RD and WR (20_memory.md R54 to R58), a write to CMD performing the command it encodes
(10_state.md R23). -/

namespace Sys2Proof.Machine

/-- An ILLEGAL CMD word: `set_err(1)` and nothing else (60_exceptions.md R183). -/
def illegalCmd (s : State) : State := complete .illegal s

/-- A write of the word `w` to CMD (R55; 30_encoding.md R81). -/
def performCmd (w : Word) (s : State) : State :=
  match decodeCmd w with
  | .ok .build => buildFrame s
  | .ok .check => checkFrame s
  | .ok .thermA => convertTemp (thermCodeA s.fb) s
  | .ok .thermB => convertTemp (thermCodeB s.fb) s
  | .ok .decode => decodeResponse s
  | .ok .corr => correct s
  | .error _ => illegalCmd s

/-- The effect of an accepted write (R55). -/
def writeWord (off : Offset) (v : Word) (s : State) : State :=
  match regAt off with
  | .cmd => performCmd v s
  | r => respond .written (writeReg s r v)

/-- RD (R54, R56). -/
def execRd (width : Width) (off : Offset) (s : State) : Host.Outcome State Fault Refusal :=
  if accepted width off then .next (respond (.read (readReg s (regAt off))) s) else .next (busErrorRead s)

/-- WR (R55, R56). -/
def execWr (width : Width) (off : Offset) (data : Word) (s : State) : Host.Outcome State Fault Refusal :=
  if accepted width off then .next (writeWord off data s) else .next (busErrorWrite s)

end Sys2Proof.Machine
end

