-- ==== Sys2Proof/Machine/Dispatch.lean ====
section
/-! DEFINITION. The one match over the instructions. -/

namespace Sys2Proof.Machine

def exec (i : Instr) (s : State) : Host.Outcome State Fault Refusal :=
  match i with
  | .build => Sys2Proof.Machine.execBuild s
  | .check => Sys2Proof.Machine.execCheck s
  | .thermA => Sys2Proof.Machine.execThermA s
  | .thermB => Sys2Proof.Machine.execThermB s
  | .decode => Sys2Proof.Machine.execDecode s
  | .corr => Sys2Proof.Machine.execCorr s
  | .rd width off => Sys2Proof.Machine.execRd width off s
  | .wr width off data => Sys2Proof.Machine.execWr width off data s

end Sys2Proof.Machine
end

