-- ==== Sys2Proof/Machine/Events.lean ====
section
/-! DEFINITION. What the block does with one bus event (20_memory.md R51, R61; 70_reset_and_hazards.md R200, R204). -/

namespace Sys2Proof.Machine

/-- An access: the block runs the instruction it decodes to; an access outside the window does not reach it (R51). -/
def serveAccess (x : BusAccess) (s : State) : Host.Outcome State Fault Refusal :=
  match decodeAccess s.cfg.base x with
  | .ok i => exec i s
  | .error _ => .next s

/-- One bus event; a reset abandons the access it finds held, with none of its results (R204). -/
def serve (e : HostEvent) (s : State) : Host.Outcome State Fault Refusal :=
  match e with
  | .access x => serveAccess x s
  | .reset => .next (applyReset s)
  | .resetDuring _ => .next (applyReset s)

end Sys2Proof.Machine
end

