-- ==== Sys2Proof/Machine/Step.lean ====
section
/-! DEFINITION. One step: the next bus event, in the order the bus delivers them (20_memory.md R61); and how a word of opcode_table.json
is laid before the block. -/

namespace Sys2Proof.Machine

/-- One step: the first pending event is taken and served; with none pending the block keeps its state (60_exceptions.md R193). -/
def step (s : State) : Host.Outcome State Fault Refusal :=
  match s.pending with
  | [] => .next s
  | e :: rest => serve e { s with pending := rest }

/-- The state with the bus access of a table row's bits as the next event (log entries 12 and 13). -/
def State.withFetchWord (s : State) (nbits w : Nat) : State :=
  match tableAccess s.cfg.base nbits w with
  | some x => { s with pending := .access x :: s.pending }
  | none => s

end Sys2Proof.Machine
end

