-- ==== Sys2Proof/Reference.lean ====
section
/-! DEFINITION. What the statements compare the machine's integer arithmetic with: rounding, the thermistor formula over the reals
(41_thermistor.md R120, R123), and CORR over the rationals (42_gas_calibration.md R150 to R160), each written from its rule. Nothing of
the machine uses this file. -/

namespace Sys2Proof.Reference

open Sys2Proof.Machine

/-- `rne(x) = q` (00_scope.md R15): `q` is the nearest integer, and the even one of two equally near. -/
def IsRne {K : Type} [Field K] [LinearOrder K] (x : K) (q : Int) : Prop :=
  |x - (q : K)| < 1 / 2 ∨ (|x - (q : K)| = 1 / 2 ∧ q % 2 = 0)

/-- `T = T_C(c)`, in the source's own three lines (R120). -/
def IsCelsius (c : Nat) (T : ℝ) : Prop :=
  ∃ v r : ℝ, v = ((c : ℝ) / 1024) * 3.0 ∧ r = v * 10000 / (3 - v) ∧
    T = 1 / (1 / 298.15 + Real.log (r / 10000) / 3380.13) - 273.15

/-- `Q16(T_C(c)) = q` (R123). -/
def IsThermResult (c : Nat) (q : Int) : Prop := ∃ T : ℝ, IsCelsius c T ∧ IsRne (T * 65536) q

/-- `raw = MAG / 10^RES` (R150). -/
def rawQ (s : State) : ℚ := (s.mag.toNat : ℚ) / 10 ^ s.res.val

/-- `T = as_s32(TEMP) / 65536` (R162). -/
def tempQ (s : State) : ℚ := (s.temp.toInt : ℚ) / 65536

/-- Word `w` of the band entry `(g, b)`, read through the index space (10_state.md R35, R37). -/
def entryWord (s : State) (g b w : Nat) : Word := calRead s.cal (BitVec.ofNat 10 (64 * g + 8 * b + w))

/-- The FLAGS bit `k` of the band entry `(g, b)` (10_state.md R39). -/
def entryFlag (s : State) (g b k : Nat) : Bool := (entryWord s g b 2).getLsbD k

/-- A coefficient of the band entry `(g, b)`, in units of 10^-6 (10_state.md R38). -/
def coefQ (s : State) (g b w : Nat) : ℚ := ((entryWord s g b w).toInt : ℚ) / 10 ^ 6

/-- The denominator `a*T + b` (R154). -/
def denomQ (s : State) (g b : Nat) : ℚ := coefQ s g b 3 * tempQ s + coefQ s g b 4

/-- The offset `c*T + d` (R154). -/
def offsetQ (s : State) (g b : Nat) : ℚ := coefQ s g b 5 * tempQ s + coefQ s g b 6

/-- The band's value: divide first, then subtract (R154). -/
def bandQ (s : State) (g b : Nat) : ℚ :=
  (if entryFlag s g b 3 then rawQ s / denomQ s g b else rawQ s) - (if entryFlag s g b 4 then offsetQ s g b else 0)

/-- The band entry `(g, b)` is enabled and contains TEMP, each bound inclusive or exclusive by its flag (R157). -/
def Accepts (s : State) (g b : Nat) : Prop :=
  entryFlag s g b 0 = true ∧
    (if entryFlag s g b 1 then (entryWord s g b 0).toInt ≤ s.temp.toInt else (entryWord s g b 0).toInt < s.temp.toInt) ∧
    (if entryFlag s g b 2 then s.temp.toInt ≤ (entryWord s g b 1).toInt else s.temp.toInt < (entryWord s g b 1).toInt)

/-- `select_band(g, t) = b` (R157): the least band number that accepts. -/
def Selected (s : State) (g b : Nat) : Prop := b < 8 ∧ Accepts s g b ∧ ∀ k, k < b → ¬ Accepts s g k

/-- The GASID code of the state's gas (R140). -/
def gasCode (s : State) : Nat := s.gas.code.toNat

/-- CORR's exact value and outcome before rounding, branch by branch (R156). -/
def CorrValue (s : State) (v : ℚ) (e : ErrCode) : Prop :=
  if s.tcEn = false then v = rawQ s ∧ e = .ok
  else if gasCode s = 0 then v = rawQ s ∧ e = .ok
  else if ¬ (1 ≤ gasCode s ∧ gasCode s ≤ 11) then v = 0 ∧ e = .unkgas
  else if s.tvalid = false then v = 0 ∧ e = .notemp
  else
    ((∀ b, b < 8 → ¬ Accepts s (gasCode s) b) ∧ v = 0 ∧ e = .noband) ∨
    ∃ b, Selected s (gasCode s) b ∧
      (if entryFlag s (gasCode s) b 3 = true ∧ denomQ s (gasCode s) b = 0 then v = 0 ∧ e = .divzero
       else if bandQ s (gasCode s) b < 0 then v = 0 ∧ e = .clamp
       else v = bandQ s (gasCode s) b ∧ e = .ok)

/-- CORR's result: the exact value rounded once, saturated above 0xFFFFFFFF (R156, R160). -/
def CorrResult (s : State) (conc : Word) (err : ErrCode) : Prop :=
  ∃ v e q, CorrValue s v e ∧ IsRne (v * 65536) q ∧
    (if 0xFFFFFFFF < q then conc = 0xFFFFFFFF ∧ err = .sat else (conc.toNat : Int) = q ∧ err = e)

end Sys2Proof.Reference
end

