-- ==== Sys2Proof/Machine/Pseudo.lean ====
section
/-! DEFINITION. The pseudo-instructions of 30_encoding.md R87 as the accesses they expand to, and the run of a host's sequence of accesses
(R85). A command's own mnemonic is its constructor. -/

namespace Sys2Proof.Machine

/-- `WR off, v`, a 32-bit write. -/
def wrWord (off : Offset) (v : Word) : Instr := .wr .word off v

/-- The write of byte `k` of a frame. -/
def wrFrameByte (f : Frame) (k : Fin 9) : Instr := wrWord (BitVec.ofNat 8 (4 * k)) (f[k].setWidth 32)

/-- `LDFRAME b0,...,b8` (R87). -/
def ldFrame (f : Frame) : List Instr := (List.finRange 9).map (wrFrameByte f)

/-- `LDREQ op,p3,p4,p5,p6,p7` (R87). -/
def ldReq (op p3 p4 p5 p6 p7 : Byte) : List Instr :=
  [wrWord 0x08 (op.setWidth 32), wrWord 0x0C (p3.setWidth 32), wrWord 0x10 (p4.setWidth 32), wrWord 0x14 (p5.setWidth 32),
    wrWord 0x18 (p6.setWidth 32), wrWord 0x1C (p7.setWidth 32), .build]

/-- `CALWR i, v` (R87). -/
def calWr (i v : Word) : List Instr := [wrWord 0x48 i, wrWord 0x4C v]

/-- `CALRD i` (R87). -/
def calRd (i : Word) : List Instr := [wrWord 0x48 i, .rd .word 0x4C]

/-- `TCON` (R87). -/
def tcOn : List Instr := [wrWord 0x2C 1]

/-- `TCOFF` (R87). -/
def tcOff : List Instr := [wrWord 0x2C 0]

/-- The accesses of a host's sequence, one after another (R61, R85). -/
def execAll (is : List Instr) (s : State) : Host.Outcome State Fault Refusal :=
  match is with
  | [] => .next s
  | i :: rest =>
    match exec i s with
    | .next t => execAll rest t
    | .fault r => .fault r
    | .refused r => .refused r

end Sys2Proof.Machine
end

