-- ==== Sys2Proof/Safety.lean ====
section
/-! DEFINITION. The terms in which claims speak of the machine: the invariant of its states, who writes what, and validity of a frame. A
safe run is one whose every step answers a next state that keeps the invariant; the block has no other way to fail
(60_exceptions.md R182). -/

namespace Sys2Proof.Machine

/-- What every reachable state satisfies: the parameters meet their constraints; TEMP without TVALID is the sentinel (41_thermistor.md
R125); the unit is absent exactly for Unknown (42_gas_calibration.md R142); and GAS is the classification of its probe byte, or still
its reset value (R30, R143). -/
structure BlockInv (s : State) : Prop where
  params : configOk s.cfg = true
  noTemp : s.tvalid = false → s.temp = 0x80000000
  unitOfGas : s.unit = .none ↔ s.gas = .unknown
  classified : (s.gas, s.unit) = classify s.cfg s.probe ∨ (s.probe = 0 ∧ s.gas = .unknown)

/-- The instruction `i` performs the command `c`: by its own constructor, or as the write of its word to CMD (30_encoding.md R87). -/
def Performs (i : Instr) (c : Command) : Prop := i = c.toInstr ∨ i = .wr .word 0x24 (encodeCmd c)

/-- The instruction `i` is a command, legal or illegal: a command's constructor or any 32-bit write of CMD. -/
def IsCommand (i : Instr) : Prop := (∃ c : Command, i = c.toInstr) ∨ ∃ w, i = .wr .word 0x24 w

/-- The frame in FB0 to FB8 is one that CHECK finds valid (40_frame_checksum.md R102, R106). -/
def FrameValid (s : State) : Prop := ∃ t, exec .check s = .next t ∧ t.valid = true

end Sys2Proof.Machine
end

