-- ==== Sys2Proof/Certificates/Slice0/Obligations.lean ====
section
/-! DEFINITION. The statements for the provers, in the order of spec/. A record update `t = { s with f := t.f, ... }` is a frame: every
field not named, the calibration table and the outside world's fields among them, is unchanged. -/

open Sys2Proof Sys2Proof.Machine

/-! ### Reset -/

/-- R20, R201: after reset, under any parameters, a read of every register but CAL_DATA returns its reset value. -/
def Obligations.ResetRegistersReadTheirResetValues : Prop :=
  ∀ (cfg : Config) (off : Offset), off.toNat % 4 = 0 → off ≠ 0x4C →
    exec (.rd .word off) (State.resetWith cfg) =
      .next { State.resetWith cfg with
        response := .read (if off = 0x38 then 0x80000000 else if off = 0x40 then 0x00000F00 else 0) }

/-- R201, R202, R36: every field after reset, and every word of the calibration table: the parameter's where it is implemented, FLAGS
within bits [4:0], and 0 elsewhere. -/
def Obligations.ResetFieldsAndTable : Prop :=
  (∀ cfg : Config, (∀ k : Fin 9, (State.resetWith cfg).fb[k] = 0) ∧ (State.resetWith cfg).valid = false ∧
    (State.resetWith cfg).tvalid = false ∧ (State.resetWith cfg).err = .ok ∧ (State.resetWith cfg).tcEn = false ∧
    (State.resetWith cfg).cksum = 0 ∧ (State.resetWith cfg).tadc = 0 ∧ (State.resetWith cfg).temp = 0x80000000 ∧
    (State.resetWith cfg).mag = 0 ∧ (State.resetWith cfg).res = 0 ∧ (State.resetWith cfg).probe = 0 ∧
    (State.resetWith cfg).gas.code = 0xF ∧ (State.resetWith cfg).unit.code = 0 ∧ (State.resetWith cfg).conc = 0 ∧
    (State.resetWith cfg).calIdx = 0) ∧
  ∀ (f : BitVec 10 → Word) (cfg : Config) (g b w : Nat), g < 16 → b < 8 → w < 8 → cfg.calDefault = tableOfWords f →
    calRead (State.resetWith cfg).cal (BitVec.ofNat 10 (64 * g + 8 * b + w)) =
      if 1 ≤ g ∧ g ≤ 11 ∧ w ≤ 6 then
        (if w = 2 then f (BitVec.ofNat 10 (64 * g + 8 * b + w)) &&& 0x1F else f (BitVec.ofNat 10 (64 * g + 8 * b + w)))
      else 0

/-- R200, R204: a reset, also one asserted while an access is held, leaves the reset state and none of that access's results; the events
still to come are the outside world's. -/
def Obligations.ResetAbandonsAHeldAccess : Prop :=
  ∀ (s : State) (x : BusAccess) (rest : List HostEvent), s.pending = .reset :: rest ∨ s.pending = .resetDuring x :: rest →
    step s = .next { State.resetWith s.cfg with pending := rest }

/-- R163(a), log entry 8: under the default parameters, whose table is a free value, CORR of CO at -30 °C finds no band; and those
parameters meet every constraint of the spec. -/
def Obligations.DefaultTableHasNoCoBandAtMinusThirty : Prop :=
  configOk defaultConfig = true ∧
  ∀ s : State, s.cal = defaultConfig.calDefault → s.tcEn = true → s.tvalid = true → s.gas = .co → s.temp = 0xFFE20000 →
    exec .corr s = .next { s with conc := 0, err := .noband, response := .written }

/-! ### Encoding and the step -/

/-- R81, R82, R84: the six legal CMD words, and ILLEGAL for every other, by its fields. -/
def Obligations.CmdWordDecoding : Prop :=
  ∀ w : Word,
    (∀ c, decodeCmd w = .ok c ↔
      w = (match c with
        | .build => 0x00000001
        | .check => 0x00000002
        | .thermA => 0x00000003
        | .thermB => 0x00000013
        | .decode => 0x00000004
        | .corr => 0x00000005)) ∧
    ((∃ r, decodeCmd w = .error r) ↔
      w.toNat / 32 ≠ 0 ∨ w.toNat % 16 = 0 ∨ 6 ≤ w.toNat % 16 ∨ (w.toNat / 16 % 2 = 1 ∧ w.toNat % 16 ≠ 3))

/-- Every well-formed instruction, with every operand at every value, is decoded from its own bus access, wherever the window stands. -/
def Obligations.DecodeOfEncode : Prop :=
  ∀ (base : Nat) (i : Instr), i.wf = true → decodeAccess base (encode base i) = .ok i

/-- An access that decodes is the encoding of what it decodes to (a read drives no data), which is well-formed; and every access within
the window decodes. -/
def Obligations.EncodeOfDecode : Prop :=
  (∀ (base : Nat) (x : BusAccess) (i : Instr), decodeAccess base x = .ok i →
    i.wf = true ∧ encode base i = { x with data := if x.write then x.data else 0 }) ∧
  ∀ (base : Nat) (x : BusAccess), (∃ i, decodeAccess base x = .ok i) ↔ base ≤ x.addr ∧ x.addr < base + 256

/-- R82, R85: words written out from the encodings decode to the instructions they stand for. -/
def Obligations.TableWordsDecode : Prop :=
  decodeTableWord 32 0b00000000000000000000000000000001 = some .build ∧
  decodeTableWord 32 0b00000000000000000000000000000010 = some .check ∧
  decodeTableWord 32 0b00000000000000000000000000000011 = some .thermA ∧
  decodeTableWord 32 0b00000000000000000000000000010011 = some .thermB ∧
  decodeTableWord 32 0b00000000000000000000000000000100 = some .decode ∧
  decodeTableWord 32 0b00000000000000000000000000000101 = some .corr ∧
  decodeTableWord 16 0b000101000 = some (.rd .word 0x28) ∧
  decodeTableWord 48 0b00000000000101000000000000000000100111000 = some (.wr .word 0x38 0x00140000)

/-- The word of a table row, laid before the block, is run as the instruction the decoder reads from it. -/
def Obligations.TableWordIsRun : Prop :=
  ∀ (s : State) (nbits w : Nat) (i : Instr), decodeTableWord nbits w = some i → step (s.withFetchWord nbits w) = exec i s

/-- A step runs the instruction that the next access decodes to, on the state with that access taken. -/
def Obligations.StepRunsTheDecodedAccess : Prop :=
  ∀ (s : State) (x : BusAccess) (rest : List HostEvent) (i : Instr), s.pending = .access x :: rest →
    decodeAccess s.cfg.base x = .ok i → step s = exec i { s with pending := rest }

/-- R51 and log entry 1: an access outside the window does not reach the block, and with nothing to serve the block keeps its state. -/
def Obligations.NothingElseReachesTheBlock : Prop :=
  (∀ (s : State) (x : BusAccess) (rest : List HostEvent), s.pending = .access x :: rest →
    (x.addr < s.cfg.base ∨ s.cfg.base + 256 ≤ x.addr) → step s = .next { s with pending := rest }) ∧
  ∀ s : State, s.pending = [] → step s = .next s

/-- R61: a host's sequence of accesses runs in its order, one step for each, and leaves what running the instructions one after another
leaves. -/
def Obligations.AccessesRunInOrder : Prop :=
  ∀ (is : List Instr) (s : State), (∀ i ∈ is, i.wf = true) →
    s.pending = is.map (fun i => HostEvent.access (encode s.cfg.base i)) →
    Host.Core.run Sys2Proof.core is.length s = execAll is { s with pending := [] }

/-! ### Bus accesses -/

/-- R54: an accepted read returns the register's value, field by field, and changes nothing else. -/
def Obligations.ReadReturnsTheRegister : Prop :=
  ∀ (s : State) (off : Offset), off.toNat % 4 = 0 →
    ∃ v : Word, exec (.rd .word off) s = .next { s with response := .read v } ∧
      (∀ k : Fin 9, off.toNat = 4 * k → v.toNat = s.fb[k].toNat) ∧
      (off = 0x24 → v = 0) ∧
      (off = 0x28 → v.toNat = s.valid.toNat + 2 * s.tvalid.toNat + 16 * s.err.code.toNat) ∧
      (off = 0x2C → v.toNat = s.tcEn.toNat) ∧
      (off = 0x30 → v.toNat = s.cksum.toNat) ∧
      (off = 0x34 → v.toNat = s.tadc.toNat) ∧
      (off = 0x38 → v = s.temp) ∧
      (off = 0x3C → v.toNat = s.mag.toNat + 65536 * s.res.val) ∧
      (off = 0x40 → v.toNat = s.probe.toNat + 256 * s.gas.code.toNat + 4096 * s.unit.code.toNat) ∧
      (off = 0x44 → v = s.conc) ∧
      (off = 0x48 → v.toNat = s.calIdx.toNat) ∧
      (off = 0x4C → v = calRead s.cal s.calIdx) ∧
      (0x50 ≤ off.toNat → v = 0)

/-- R56, R187: a misaligned or sub-word access ends in the bus's error response, a read with data 0, and changes nothing else. -/
def Obligations.BusErrorChangesNothing : Prop :=
  ∀ (s : State) (width : Width) (off : Offset) (data : Word), width ≠ .word ∨ off.toNat % 4 ≠ 0 →
    exec (.rd width off) s = .next { s with response := .readError 0 } ∧
    exec (.wr width off data) s = .next { s with response := .writeError }

/-- R55: the effect of an accepted write at every offset other than CMD and CAL_DATA, and that it changes nothing else. -/
def Obligations.WriteEffects : Prop :=
  ∀ (s : State) (v : Word),
    (∀ k : Fin 9, exec (.wr .word (BitVec.ofNat 8 (4 * k)) v) s =
      .next { s with fb := s.fb.set k (BitVec.ofNat 8 (v.toNat % 256)), response := .written }) ∧
    exec (.wr .word 0x2C v) s = .next { s with tcEn := v.toNat % 2 == 1, response := .written } ∧
    exec (.wr .word 0x38 v) s = .next { s with temp := v, tvalid := true, response := .written } ∧
    exec (.wr .word 0x48 v) s = .next { s with calIdx := BitVec.ofNat 10 (v.toNat % 1024), response := .written } ∧
    ∀ off : Offset, off.toNat % 4 = 0 →
      (off ∈ [0x28, 0x30, 0x34, 0x3C, 0x40, 0x44] ∨ 0x50 ≤ off.toNat) →
      exec (.wr .word off v) s = .next { s with response := .written }

/-- R33, R35, R37: a write of CAL_DATA stores the word at CAL_IDX if it is implemented, FLAGS within bits [4:0]; every other word of the
table, and everything else, is unchanged. -/
def Obligations.CalDataWriteStoresOneWord : Prop :=
  ∀ (s : State) (v : Word), ∃ t, exec (.wr .word 0x4C v) s = .next t ∧ t = { s with cal := t.cal, response := .written } ∧
    (∀ i, i ≠ s.calIdx → calRead t.cal i = calRead s.cal i) ∧
    calRead t.cal s.calIdx =
      if 1 ≤ s.calIdx.toNat / 64 ∧ s.calIdx.toNat / 64 ≤ 11 ∧ s.calIdx.toNat % 8 ≤ 6 then
        (if s.calIdx.toNat % 8 = 2 then v &&& 0x1F else v)
      else 0

/-- R22, R25, R28, R32, R33: what a read finds right after a write at the same offset, for every register a host may write but CMD. -/
def Obligations.ReadAfterWrite : Prop :=
  ∀ (s : State) (off : Offset) (v : Word), off.toNat % 4 = 0 →
    (off.toNat ≤ 0x20 ∨ off ∈ [0x2C, 0x38, 0x48, 0x4C]) →
    ∃ t, exec (.wr .word off v) s = .next t ∧
      exec (.rd .word off) t = .next { t with
        response := .read
          (if off.toNat ≤ 0x20 then v &&& 0xFF
           else if off = 0x2C then v &&& 0x1
           else if off = 0x38 then v
           else if off = 0x48 then v &&& 0x3FF
           else if 1 ≤ s.calIdx.toNat / 64 ∧ s.calIdx.toNat / 64 ≤ 11 ∧ s.calIdx.toNat % 8 ≤ 6 then
            (if s.calIdx.toNat % 8 = 2 then v &&& 0x1F else v)
           else 0) }

/-- R23, R55: a 32-bit write of a legal command word to CMD is that command. -/
def Obligations.CmdWritePerformsTheCommand : Prop :=
  ∀ (s : State) (w : Word) (c : Command), decodeCmd w = .ok c → exec (.wr .word 0x24 w) s = exec c.toInstr s

/-- R183, R84: an ILLEGAL CMD word sets ERR to 1 and changes nothing else. -/
def Obligations.IllegalWordOnlySetsErr : Prop :=
  ∀ (s : State) (w : Word), w ∉ [0x00000001, 0x00000002, 0x00000003, 0x00000013, 0x00000004, 0x00000005] →
    ∃ t, exec (.wr .word 0x24 w) s = .next t ∧ t = { s with err := t.err, response := .written } ∧ t.err.code = 1

/-- R59: every read, every write and every command, done once more, leaves the state it left the first time. -/
def Obligations.AccessesAreIdempotent : Prop :=
  ∀ (s t : State) (i : Instr), exec i s = .next t → exec i t = .next t

/-! ### Frame checksum -/

/-- R101: the checksum of bytes 1 to 7 is the two's complement of their sum's low byte, and is 0 exactly when the sum is 0 modulo 256; the
sum is at most 1785. -/
def Obligations.ChecksumIsTwosComplement : Prop :=
  ∀ f : Frame, cks f = -(f[1] + f[2] + f[3] + f[4] + f[5] + f[6] + f[7]) ∧
    (cks f = 0 ↔ (f[1].toNat + f[2].toNat + f[3].toNat + f[4].toNat + f[5].toNat + f[6].toNat + f[7].toNat) % 256 = 0) ∧
    f[1].toNat + f[2].toNat + f[3].toNat + f[4].toNat + f[5].toNat + f[6].toNat + f[7].toNat ≤ 1785

/-- R104: BUILD. -/
def Obligations.BuildCompletesARequestFrame : Prop :=
  ∀ s : State, ∃ t, exec .build s = .next t ∧
    t.fb[0] = 0xFF ∧ t.fb[1] = 0x01 ∧ t.fb[2] = s.fb[2] ∧ t.fb[3] = s.fb[3] ∧ t.fb[4] = s.fb[4] ∧ t.fb[5] = s.fb[5] ∧
    t.fb[6] = s.fb[6] ∧ t.fb[7] = s.fb[7] ∧
    t.fb[8].toNat = (0x100 - (1 + s.fb[2].toNat + s.fb[3].toNat + s.fb[4].toNat + s.fb[5].toNat + s.fb[6].toNat +
      s.fb[7].toNat) % 256) % 256 ∧
    t.cksum = t.fb[8] ∧ t.err.code = 0 ∧
    t = { s with fb := t.fb, cksum := t.cksum, err := t.err, response := .written }

/-- R105: after BUILD the frame is valid, and a CHECK that follows with no frame write in between sets VALID, with ERR 0. -/
def Obligations.BuiltFrameChecks : Prop :=
  ∀ s : State, ∃ t, exec .build s = .next t ∧
    (t.fb[1].toNat + t.fb[2].toNat + t.fb[3].toNat + t.fb[4].toNat + t.fb[5].toNat + t.fb[6].toNat + t.fb[7].toNat +
      t.fb[8].toNat) % 256 = 0 ∧
    ∀ u : State, u.fb = t.fb → exec .check u = .next { u with cksum := t.fb[8], valid := true, err := .ok, response := .written }

/-- R106: CHECK. -/
def Obligations.CheckValidatesTheChecksum : Prop :=
  ∀ s : State, ∃ t, exec .check s = .next t ∧
    t.cksum.toNat = (0x100 - (s.fb[1].toNat + s.fb[2].toNat + s.fb[3].toNat + s.fb[4].toNat + s.fb[5].toNat + s.fb[6].toNat +
      s.fb[7].toNat) % 256) % 256 ∧
    (t.valid = true ↔ t.cksum = s.fb[8]) ∧ t.err.code = (if t.cksum = s.fb[8] then 0 else 2) ∧
    t = { s with cksum := t.cksum, valid := t.valid, err := t.err, response := .written }

/-- R102, R107: CHECK finds a frame valid exactly when the checksum of bytes 1 to 7 is byte 8, equivalently when bytes 1 to 8 sum to 0
modulo 256; byte 0 takes no part, and byte 1 none but in the sum. -/
def Obligations.ValidFrameSumsToZero : Prop :=
  ∀ s : State,
    (FrameValid s ↔ (0x100 - (s.fb[1].toNat + s.fb[2].toNat + s.fb[3].toNat + s.fb[4].toNat + s.fb[5].toNat + s.fb[6].toNat +
      s.fb[7].toNat) % 256) % 256 = s.fb[8].toNat) ∧
    (FrameValid s ↔ (s.fb[1].toNat + s.fb[2].toNat + s.fb[3].toNat + s.fb[4].toNat + s.fb[5].toNat + s.fb[6].toNat +
      s.fb[7].toNat + s.fb[8].toNat) % 256 = 0) ∧
    ∀ b : Byte, FrameValid { s with fb := s.fb.set 0 b } ↔ FrameValid s

/-- R108: CHECK detects every change of exactly one byte among bytes 1 to 8; it does not detect a reordering of bytes 1 to 8, any change of
byte 0, or two changes that cancel modulo 256. -/
def Obligations.CheckDetectionPower : Prop :=
  ∀ (s : State) (j k : Fin 9) (b : Byte) (p : Equiv.Perm (Fin 9)), j ≠ 0 → k ≠ 0 → p 0 = 0 → FrameValid s →
    (b ≠ s.fb[k] → ¬ FrameValid { s with fb := s.fb.set k b }) ∧
    FrameValid { s with fb := Vector.ofFn fun n => s.fb[p n] } ∧
    FrameValid { s with fb := s.fb.set 0 b } ∧
    (j ≠ k → FrameValid { s with fb := (s.fb.set j (s.fb[j] + b)).set k (s.fb[k] - b) })

/-! ### Thermistor -/

/-- R124 (with R120, R122, R123): THERM.A on the code at FB2:FB3 and THERM.B on the code at FB6:FB7, for every 16-bit code: TEMP is the Beta
equation over the reals, rounded once. -/
def Obligations.ThermConvertsOrReportsSingular : Prop :=
  ∀ (s : State) (i : Instr) (c : Nat),
    (i = .thermA ∧ c = 256 * s.fb[2].toNat + s.fb[3].toNat) ∨ (i = .thermB ∧ c = 256 * s.fb[6].toNat + s.fb[7].toNat) →
    ∃ t, exec i s = .next t ∧ t.tadc.toNat = c ∧
      (if 1 ≤ c ∧ c ≤ 1023 then
        t.tvalid = true ∧ t.err.code = 0 ∧ Reference.IsThermResult c t.temp.toInt
      else t.tvalid = false ∧ t.err.code = 3 ∧ t.temp = 0x80000000) ∧
      t = { s with tadc := t.tadc, temp := t.temp, tvalid := t.tvalid, err := t.err, response := .written }

/-- R120 to R123, R126, log entry 10: for every converting code the table's result is the Beta equation over the reals, times 65536, rounded to nearest. -/
def Obligations.ThermTableIsCorrectlyRounded : Prop :=
  ∀ c : Nat, 1 ≤ c → c ≤ 1023 → ∃ q, thermCelsius c = some q ∧ Reference.IsThermResult c q

/-- R123, R125: the results decrease strictly, adjacent ones at least 6531 apart, between the stated ends; code 512 gives 25 °C exactly; and
none is the sentinel. -/
def Obligations.ThermResultsDecrease : Prop :=
  thermCelsius 1 = some 32369885 ∧ thermCelsius 512 = some 1638400 ∧ thermCelsius 1023 = some (-5774698) ∧
  (∀ c p q, thermCelsius c = some p → thermCelsius (c + 1) = some q → q + 6531 ≤ p) ∧
  (∀ c q, thermCelsius c = some q → BitVec.ofInt 32 q ≠ 0x80000000) ∧
  ∀ c, (∃ q, thermCelsius c = some q) ↔ 1 ≤ c ∧ c ≤ 1023

/-! ### Decode and classification -/

/-- R151, R150, R186: DECODE. -/
def Obligations.DecodeExtractsTheResponse : Prop :=
  ∀ s : State, ∃ t, exec .decode s = .next t ∧
    t.mag.toNat = 256 * s.fb[2].toNat + s.fb[3].toNat ∧
    t.res.val = (if s.fb[5].toNat ≤ 2 then s.fb[5].toNat else 0) ∧
    t.probe = s.fb[4] ∧ (t.gas, t.unit) = classify s.cfg s.fb[4] ∧
    t.err.code = (if 2 < s.fb[5].toNat then 4 else if t.gas.code = 15 then 5 else 0) ∧
    t = { s with mag := t.mag, res := t.res, probe := t.probe, gas := t.gas, unit := t.unit, err := t.err, response := .written }

/-- R141, R142, R143: under any admissible parameters the source's three bytes classify as the source says, each of the ten other codes as
its gas with its unit, which is "%" or "ppm", and every byte that is none of the twelve as Unknown without a unit. -/
def Obligations.ClassifyIsThePartialMap : Prop :=
  ∀ cfg : Config, configOk cfg = true →
    classify cfg 0x05 = (.o2, .percent) ∧ classify cfg 0x04 = (.co, .ppm) ∧ classify cfg 0xFF = (.unknown, .none) ∧
    (∀ (k : Fin 10) (g : Gas), otherGases[k.val]? = some g → classify cfg cfg.others[k].code = (g, cfg.others[k].unit) ∧
      g.code.toNat = k.val + 2 ∧ cfg.others[k].unit ≠ .none) ∧
    ∀ p : Byte, p ≠ 0x05 → p ≠ 0x04 → (∀ k : Fin 10, cfg.others[k].code ≠ p) → classify cfg p = (.unknown, .none)

/-- R141's default codes and R142's default units, which the spec marks as general knowledge (log entries 6 and 7): GAS after DECODE. -/
def Obligations.DefaultProbeCodes : Prop :=
  ∀ s : State, s.cfg = defaultConfig → ∃ t, exec .decode s = .next t ∧
    ∀ pg ∈ [(0x05, 0x1005), (0x04, 0x2104), (0x03, 0x2203), (0x2C, 0x232C), (0x2A, 0x242A), (0x31, 0x2531), (0x02, 0x2602),
        (0x06, 0x2706), (0x2E, 0x282E), (0x2B, 0x292B), (0x33, 0x2A33), (0x45, 0x2B45), (0x00, 0x0F00), (0xFF, 0x0FFF)],
      s.fb[4].toNat = pg.1 → (readReg t .gas).toNat = pg.2

/-! ### Correction -/

/-- R156 (with R154, R157 to R160): CORR's integer arithmetic computes the exact rational value, rounds it once and saturates, with the
outcome of its first condition, and changes CONC and ERR only. -/
def Obligations.CorrMeetsTheRationalRule : Prop :=
  ∀ s : State, ∃ t, exec .corr s = .next t ∧ Reference.CorrResult s t.conc t.err ∧
    t = { s with conc := t.conc, err := t.err, response := .written }

/-- R155, R164: with compensation off every gas, and with it on O2, gives the rounded raw value, never saturated; with it on Unknown gives
0 with UNKGAS; whatever TEMP, TVALID and the table hold. -/
def Obligations.CorrWithoutTheTable : Prop :=
  ∀ s : State,
    (s.tcEn = false ∨ s.gas.code = 0 → ∃ t, exec .corr s = .next t ∧ t.err = .ok ∧ t.conc.toNat ≤ 0xFFFF0000 ∧
      Reference.IsRne (Reference.rawQ s * 65536) (t.conc.toNat : Int)) ∧
    (s.tcEn = true → s.gas.code = 15 → ∃ t, exec .corr s = .next t ∧ t.conc = 0 ∧ t.err.code = 5)

/-- R161: a table gas without a temperature. -/
def Obligations.CorrWithoutATemperature : Prop :=
  ∀ s : State, s.tcEn = true → 1 ≤ s.gas.code.toNat → s.gas.code.toNat ≤ 11 → s.tvalid = false →
    exec .corr s = .next { s with conc := 0, err := .notemp, response := .written }

/-- R157: band selection. -/
def Obligations.LeastAcceptingBandIsSelected : Prop :=
  (∀ (bands : Vector Band 8) (t : Int) (b : Fin 8), selectBand bands t = some b ↔
    bands[b].accepts t = true ∧ ∀ k : Fin 8, k < b → bands[k].accepts t = false) ∧
  (∀ (bands : Vector Band 8) (t : Int), selectBand bands t = none ↔ ∀ b : Fin 8, bands[b].accepts t = false) ∧
  (∀ (e : Band) (t : Int), e.accepts t = true ↔
    e.flags.getLsbD 0 = true ∧ (e.lo.toInt < t ∨ (e.flags.getLsbD 1 = true ∧ e.lo.toInt = t)) ∧
      (t < e.hi.toInt ∨ (e.flags.getLsbD 2 = true ∧ e.hi.toInt = t))) ∧
  ∀ (e : Band) (t : Int), e.hi.toInt ≤ e.lo.toInt → e.accepts t = true →
    t = e.lo.toInt ∧ e.lo = e.hi ∧ e.flags.getLsbD 1 = true ∧ e.flags.getLsbD 2 = true

/-- R158, R159: with a band selected, a denominator of exactly 0 gives CONC 0 with DIVZERO, a negative value gives CONC 0 with CLAMP, and a
value of exactly 0 is no clamp. -/
def Obligations.UndefinedAndNegativeValuesGiveZero : Prop :=
  ∀ (s : State) (b : Nat), s.tcEn = true → 1 ≤ s.gas.code.toNat → s.gas.code.toNat ≤ 11 → s.tvalid = true →
    Reference.Selected s s.gas.code.toNat b →
    (Reference.entryFlag s s.gas.code.toNat b 3 = true → Reference.denomQ s s.gas.code.toNat b = 0 →
      exec .corr s = .next { s with conc := 0, err := .divzero, response := .written }) ∧
    (¬ (Reference.entryFlag s s.gas.code.toNat b 3 = true ∧ Reference.denomQ s s.gas.code.toNat b = 0) →
      (Reference.bandQ s s.gas.code.toNat b < 0 →
        exec .corr s = .next { s with conc := 0, err := .clamp, response := .written }) ∧
      (Reference.bandQ s s.gas.code.toNat b = 0 →
        exec .corr s = .next { s with conc := 0, err := .ok, response := .written }))

/-- R164: CONC and ERR depend on TC_EN, GASID, RAWCONC, TEMP, TVALID and the entries of the gas's own slot, and on nothing else. -/
def Obligations.CorrDependsOnItsOperandsOnly : Prop :=
  ∀ s s' : State, s.tcEn = s'.tcEn → s.gas = s'.gas → s.mag = s'.mag → s.res = s'.res → s.temp = s'.temp → s.tvalid = s'.tvalid →
    (∀ b w, b < 8 → w < 7 →
      Reference.entryWord s s.gas.code.toNat b w = Reference.entryWord s' s.gas.code.toNat b w) →
    ∃ t t', exec .corr s = .next t ∧ exec .corr s' = .next t' ∧ t.conc = t'.conc ∧ t.err = t'.err

/-- R160's remark "Only a band with `DIV = 1` can saturate, because `raw <= 65535`". It FAILS of the pseudocode of R156, which the model
follows (log entry 17): a band that subtracts a large negative offset saturates without dividing. -/
def Obligations.OnlyADividingBandSaturates : Prop :=
  ∀ (s t : State) (b : Nat), exec .corr s = .next t → t.err = .sat → Reference.Selected s s.gas.code.toNat b →
    Reference.entryFlag s s.gas.code.toNat b 3 = true

/-- R211: CORR right after reset, under any parameters, with compensation off, on, and on with a table gas. -/
def Obligations.CorrAfterReset : Prop :=
  ∀ cfg : Config,
    exec .corr (State.resetWith cfg) = .next { State.resetWith cfg with response := .written } ∧
    exec .corr { State.resetWith cfg with tcEn := true } =
      .next { State.resetWith cfg with tcEn := true, err := .unkgas, response := .written } ∧
    exec .corr { State.resetWith cfg with tcEn := true, gas := .co } =
      .next { State.resetWith cfg with tcEn := true, gas := .co, err := .notemp, response := .written }

/-! ### The whole machine -/

/-- R109: no command but CHECK depends on VALID or changes it. -/
def Obligations.NoValidityGate : Prop :=
  ∀ (s t : State) (v : Bool) (i : Instr), i ∈ [.build, .thermA, .thermB, .decode, .corr] → exec i s = .next t →
    exec i { s with valid := v } = .next { t with valid := v } ∧ t.valid = s.valid

/-- R40, R180: VALID is changed by CHECK alone, TVALID by THERM and by a write of TEMP, which sets it, and ERR by commands alone. -/
def Obligations.FlagWriters : Prop :=
  ∀ (s t : State) (i : Instr), exec i s = .next t →
    (t.valid ≠ s.valid → Performs i .check) ∧
    (t.tvalid ≠ s.tvalid → Performs i .thermA ∨ Performs i .thermB ∨ ∃ v, i = .wr .word 0x38 v ∧ t.tvalid = true) ∧
    (t.err ≠ s.err → IsCommand i)

/-- R22, R25 to R33: which instructions change each register and the table; a read changes none. -/
def Obligations.RegisterWriters : Prop :=
  ∀ (s t : State) (i : Instr), exec i s = .next t →
    (t.fb ≠ s.fb → Performs i .build ∨ ∃ (k : Fin 9) (v : Word), i = .wr .word (BitVec.ofNat 8 (4 * k)) v) ∧
    (t.tcEn ≠ s.tcEn → ∃ v, i = .wr .word 0x2C v) ∧
    (t.cksum ≠ s.cksum → Performs i .build ∨ Performs i .check) ∧
    (t.tadc ≠ s.tadc → Performs i .thermA ∨ Performs i .thermB) ∧
    (t.temp ≠ s.temp → Performs i .thermA ∨ Performs i .thermB ∨ ∃ v, i = .wr .word 0x38 v) ∧
    ((t.mag, t.res, t.probe, t.gas, t.unit) ≠ (s.mag, s.res, s.probe, s.gas, s.unit) → Performs i .decode) ∧
    (t.conc ≠ s.conc → Performs i .corr) ∧
    (t.calIdx ≠ s.calIdx → ∃ v, i = .wr .word 0x48 v) ∧
    (t.cal ≠ s.cal → ∃ v, i = .wr .word 0x4C v)

/-- R182, R194: every step answers a next state; the parameters never change, and exactly one event is taken. -/
def Obligations.EveryStepGoesOn : Prop :=
  ∀ s : State, ∃ t, step s = .next t ∧ t.cfg = s.cfg ∧ t.pending = s.pending.tail

/-- The invariant (R125, R142, R143, log entry 4) holds right after reset. -/
def Obligations.ResetMeetsTheInvariant : Prop := BlockInv State.reset

/-- The invariant is kept by every step from every state that meets it. -/
def Obligations.StepKeepsTheInvariant : Prop := ∀ s t : State, BlockInv s → step s = .next t → BlockInv t

/-- R24, R29, R30, R181, I16: what STATUS, RAWCONC and GAS never read as, in any state: a reserved bit, an outcome code above 10, a
resolution code 3, a gas code 12 to 14, a unit code 3. -/
def Obligations.ReservedCodesAreNeverRead : Prop :=
  ∀ s : State,
    (readReg s .status).toNat < 256 ∧ (readReg s .status).toNat / 4 % 4 = 0 ∧ (readReg s .status).toNat / 16 ≤ 10 ∧
    (readReg s .rawconc).toNat / 65536 ≤ 2 ∧
    (readReg s .gas).toNat / 4096 ≤ 2 ∧
    ((readReg s .gas).toNat / 256 % 16 ≤ 11 ∨ (readReg s .gas).toNat / 256 % 16 = 15)

/-- R87: the pseudo-instructions do what their expansions say: LDFRAME loads a frame, LDREQ leaves a valid request, CALWR then CALRD
returns the word an implemented index holds, TCON and TCOFF set TC_EN. -/
def Obligations.PseudoInstructions : Prop :=
  ∀ s : State,
    (∀ f : Frame, execAll (ldFrame f) s = .next { s with fb := f, response := .written }) ∧
    (∀ op p3 p4 p5 p6 p7 : Byte, ∃ t, execAll (ldReq op p3 p4 p5 p6 p7) s = .next t ∧ FrameValid t ∧
      t.fb = #v[0xFF, 0x01, op, p3, p4, p5, p6, p7, t.cksum]) ∧
    (∀ i v : Word, 1 ≤ i.toNat % 1024 / 64 → i.toNat % 1024 / 64 ≤ 11 → i.toNat % 8 ≤ 6 →
      ∃ t, execAll (calWr i v ++ calRd i) s = .next t ∧
        t.response = .read (if i.toNat % 8 = 2 then v &&& 0x1F else v)) ∧
    execAll tcOn s = .next { s with tcEn := true, response := .written } ∧
    execAll tcOff s = .next { s with tcEn := false, response := .written }
end

