-- ==== Sys2Proof/Laws/Arithmetic.lean ====
section
/-! SUPPORT. The exact fractions are the rationals they stand for, and the integer rounding is rounding to nearest, ties to even. -/

namespace Sys2Proof.Machine

/-- The rational a fraction stands for. -/
def Frac.toRat (x : Frac) : ℚ := (x.num : ℚ) / (x.den : ℚ)

theorem frac_ofNat_toRat (n : Nat) : (Frac.ofNat n).toRat = n := by simp [Frac.toRat, Frac.ofNat]

theorem frac_sub_toRat (x y : Frac) (hx : 0 < x.den) (hy : 0 < y.den) : (x.sub y).toRat = x.toRat - y.toRat := by
  have hx' : (x.den : ℚ) ≠ 0 := by exact_mod_cast hx.ne'
  have hy' : (y.den : ℚ) ≠ 0 := by exact_mod_cast hy.ne'
  simp only [Frac.toRat, Frac.sub]
  push_cast
  field_simp

theorem frac_sub_den_pos (x y : Frac) (hx : 0 < x.den) (hy : 0 < y.den) : 0 < (x.sub y).den := Nat.mul_pos hx hy

theorem frac_div_den_pos (x y : Frac) (hx : 0 < x.den) (hy : y.num ≠ 0) : 0 < (x.div y).den :=
  Nat.mul_pos hx (Int.natAbs_pos.mpr hy)

theorem frac_div_toRat (x y : Frac) (hx : 0 < x.den) (hd : 0 < y.den) (hy : y.num ≠ 0) :
    (x.div y).toRat = x.toRat / y.toRat := by
  have hx' : (x.den : ℚ) ≠ 0 := by exact_mod_cast hx.ne'
  have hd' : (y.den : ℚ) ≠ 0 := by exact_mod_cast hd.ne'
  have hn : (y.num : ℚ) ≠ 0 := by exact_mod_cast hy
  have habs : ((y.num.natAbs : ℕ) : ℚ) = (y.num.sign : ℚ) * (y.num : ℚ) := by
    rw [Nat.cast_natAbs, ← Int.sign_mul_self_eq_abs]
    push_cast
    rfl
  have hs : (y.num.sign : ℚ) ≠ 0 := by exact_mod_cast (Int.sign_eq_zero_iff_zero).not.mpr hy
  simp only [Frac.toRat, Frac.div]
  push_cast
  rw [habs]
  field_simp

/-- The sign of a fraction is the sign of its numerator. -/
theorem frac_neg_iff (x : Frac) (hx : 0 < x.den) : x.num < 0 ↔ x.toRat < 0 := by
  have hx' : (0 : ℚ) < x.den := by exact_mod_cast hx
  simp only [Frac.toRat, div_neg_iff]
  constructor
  · intro h
    exact Or.inr ⟨by exact_mod_cast h, hx'⟩
  · rintro (⟨-, h⟩ | ⟨h, -⟩)
    · exact absurd h (not_lt.mpr hx'.le)
    · exact_mod_cast h

/-- `rneDiv n d` is the nearest integer to `n / d`, the even one of two equally near (00_scope.md R15). -/
theorem rneDiv_isRne (n : Int) (d : Nat) (hd : 0 < d) : Reference.IsRne ((n : ℚ) / (d : ℚ)) (rneDiv n d) := by
  have hd' : (0 : ℚ) < d := by exact_mod_cast hd
  have hdi : (0 : Int) < d := by exact_mod_cast hd
  have hdm : (n : ℚ) = d * ((n / (d : Int) : Int) : ℚ) + ((n % (d : Int) : Int) : ℚ) := by
    exact_mod_cast (Int.mul_ediv_add_emod n d).symm
  have hr0 : (0 : ℚ) ≤ ((n % (d : Int) : Int) : ℚ) := by exact_mod_cast Int.emod_nonneg n hdi.ne'
  have hr1 : ((n % (d : Int) : Int) : ℚ) < d := by exact_mod_cast Int.emod_lt_of_pos n hdi
  have hx : (n : ℚ) / d = ((n / (d : Int) : Int) : ℚ) + ((n % (d : Int) : Int) : ℚ) / d := by
    rw [hdm]
    field_simp
  have hq0 : (0 : ℚ) ≤ ((n % (d : Int) : Int) : ℚ) / d := div_nonneg hr0 hd'.le
  have hq1 : ((n % (d : Int) : Int) : ℚ) / d < 1 := (div_lt_one hd').mpr hr1
  simp only [Reference.IsRne, rneDiv]
  rw [hx]
  split_ifs with h1 h2 h3
  · left
    have : ((n % (d : Int) : Int) : ℚ) / d < 1 / 2 := by
      rw [div_lt_iff₀ hd']
      have : (2 : ℚ) * ((n % (d : Int) : Int) : ℚ) < d := by exact_mod_cast h1
      linarith
    rw [add_sub_cancel_left, abs_of_nonneg hq0]
    exact this
  · left
    have : 1 / 2 < ((n % (d : Int) : Int) : ℚ) / d := by
      rw [lt_div_iff₀ hd']
      have : (d : ℚ) < 2 * ((n % (d : Int) : Int) : ℚ) := by exact_mod_cast h2
      linarith
    push_cast
    rw [abs_lt]
    constructor <;> linarith
  all_goals
    right
    have h : ((n % (d : Int) : Int) : ℚ) / d = 1 / 2 := by
      have he : (2 : Int) * (n % d) = d := le_antisymm (not_lt.mp h2) (not_lt.mp h1)
      have : (2 : ℚ) * ((n % (d : Int) : Int) : ℚ) = d := by exact_mod_cast he
      rw [div_eq_iff hd'.ne']
      linarith
    rw [h]
    push_cast
  · exact ⟨by rw [add_sub_cancel_left]; norm_num, h3⟩
  · exact ⟨by rw [abs_of_nonpos] <;> linarith, by omega⟩

/-- The rounding of a fraction is the rounding of its rational. -/
theorem q16_isRne (x : Frac) (hx : 0 < x.den) : Reference.IsRne (x.toRat * 65536) x.q16 := by
  have h := rneDiv_isRne (x.num * 65536) x.den hx
  have e : ((x.num * 65536 : Int) : ℚ) / (x.den : ℚ) = x.toRat * 65536 := by
    simp only [Frac.toRat]
    push_cast
    ring
  rwa [e] at h

end Sys2Proof.Machine
end

