-- ==== Sys2Proof/Laws/CalTable.lean ====
section
/-! SUPPORT. The calibration table as an index space: which parts of an index are its gas, band and word, and reading after writing. -/

namespace Sys2Proof.Machine

theorem calGas_eq (i : BitVec 10) : calGas i = i.toNat / 64 := by
  have := i.isLt
  simp only [calGas, BitVec.extractLsb'_toNat, Nat.shiftRight_eq_div_pow]
  omega

theorem calBand_val (i : BitVec 10) : (calBand i).val = i.toNat / 8 % 8 := by
  simp [calBand, Nat.shiftRight_eq_div_pow]

theorem calWordNo_eq (i : BitVec 10) : calWordNo i = i.toNat % 8 := by
  simp [calWordNo, BitVec.extractLsb'_toNat]

/-- An index is its gas, band and word number. -/
theorem calIndex_split (i j : BitVec 10) (hg : calGas i = calGas j) (hb : calBand i = calBand j) (hw : calWordNo i = calWordNo j) :
    i = j := by
  apply BitVec.eq_of_toNat_eq
  have hb' := congrArg Fin.val hb
  simp only [calGas_eq, calBand_val, calWordNo_eq] at hg hb' hw
  omega

theorem calSlot_some (g : Nat) (h : 1 ≤ g ∧ g ≤ 11) : calSlot g = some ⟨g - 1, by omega⟩ := dif_pos h

theorem calSlot_none (g : Nat) (h : ¬ (1 ≤ g ∧ g ≤ 11)) : calSlot g = none := dif_neg h

/-- Two gas codes at the same position are the same code. -/
theorem calSlot_injective (g g' : Nat) (k : Fin 11) (h : calSlot g = some k) (h' : calSlot g' = some k) : g = g' := by
  by_cases c : 1 ≤ g ∧ g ≤ 11 <;> by_cases c' : 1 ≤ g' ∧ g' ≤ 11
  · rw [calSlot_some g c] at h
    rw [calSlot_some g' c'] at h'
    have e := congrArg Fin.val (Option.some.inj (h.trans h'.symm))
    simp only at e
    omega
  · simp [calSlot_none g' c'] at h'
  · simp [calSlot_none g c] at h
  · simp [calSlot_none g c] at h

@[simp] theorem entry_setEntry_same (t : CalTable) (g : Fin 11) (b : Fin 8) (e : Band) : (t.setEntry g b e).entry g b = e := by
  simp [CalTable.entry, CalTable.setEntry]

theorem entry_setEntry_other (t : CalTable) (g g' : Fin 11) (b b' : Fin 8) (e : Band) (h : ¬ (g = g' ∧ b = b')) :
    (t.setEntry g b e).entry g' b' = t.entry g' b' := by
  simp only [CalTable.entry, CalTable.setEntry, Fin.getElem_fin, Vector.getElem_set]
  split_ifs with hg
  · have hg' : g = g' := Fin.ext hg
    subst hg'
    have hb : b.val ≠ b'.val := fun hb => h ⟨rfl, Fin.ext hb⟩
    simp [hb]
  · rfl

/-- What a band's word reads as right after it is written. -/
theorem word_setWord_same (e : Band) (w : Nat) (v : Word) :
    (e.setWord w v).word w = if w = 2 then v &&& 0x1F else if w ≤ 6 then v else 0 := by
  match w with
  | 0 => rfl
  | 1 => rfl
  | 2 =>
    simp only [Band.setWord, Band.word, if_true]
    apply BitVec.eq_of_toNat_eq
    simp only [BitVec.toNat_setWidth, BitVec.toNat_and]
    rw [show (0x1F : BitVec 32).toNat = 2 ^ 5 - 1 from rfl, Nat.and_two_pow_sub_one_eq_mod]
    omega
  | 3 => rfl
  | 4 => rfl
  | 5 => rfl
  | 6 => rfl
  | n + 7 => simp [Band.word]

theorem word_setWord_other (e : Band) (w w' : Nat) (v : Word) (h : w ≠ w') : (e.setWord w v).word w' = e.word w' := by
  unfold Band.setWord
  split <;> unfold Band.word <;> split <;> simp_all

/-- `CalRead` after `CalWrite` of the same word (10_state.md R37). -/
theorem calRead_calWrite_same (t : CalTable) (i : BitVec 10) (v : Word) :
    calRead (calWrite t i v) i =
      if 1 ≤ calGas i ∧ calGas i ≤ 11 then (if calWordNo i = 2 then v &&& 0x1F else if calWordNo i ≤ 6 then v else 0) else 0 := by
  by_cases c : 1 ≤ calGas i ∧ calGas i ≤ 11
  · simp only [calRead, calWrite, calSlot_some _ c, entry_setEntry_same, word_setWord_same]
    simp only [if_pos c]
  · simp only [calRead, calSlot_none _ c, if_neg c]

/-- `CalRead` after `CalWrite` of another word (10_state.md R37). -/
theorem calRead_calWrite_other (t : CalTable) (i j : BitVec 10) (v : Word) (h : j ≠ i) :
    calRead (calWrite t i v) j = calRead t j := by
  unfold calWrite
  cases hi : calSlot (calGas i) with
  | none => rfl
  | some g =>
    unfold calRead
    cases hj : calSlot (calGas j) with
    | none => rfl
    | some g' =>
      simp only
      by_cases hgb : g = g' ∧ calBand i = calBand j
      · obtain ⟨rfl, hb⟩ := hgb
        have hg := calSlot_injective _ _ _ hi hj
        have hw : calWordNo i ≠ calWordNo j := fun hw => h (calIndex_split i j hg hb hw).symm
        rw [← hb, entry_setEntry_same, word_setWord_other _ _ _ _ hw]
      · rw [entry_setEntry_other _ _ _ _ _ _ hgb]

end Sys2Proof.Machine
end

