-- ==== Sys2Proof/Laws/Decode.lean ====
section
/-! SUPPORT. The CMD decoder on the words it accepts, and the register map at its offsets. -/

namespace Sys2Proof.Machine

theorem decodeCmd_encodeCmd (c : Command) : decodeCmd (encodeCmd c) = .ok c := by cases c <;> decide

/-- A word whose reserved field is 0 is one of 32 words (30_encoding.md R80). -/
theorem word_of_reserved_zero (w : Word) (h : cmdReserved w = 0) : ∃ k : Fin 32, w = BitVec.ofNat 32 k.val := by
  have hw := w.isLt
  have h' := congrArg BitVec.toNat h
  simp only [cmdReserved, BitVec.extractLsb'_toNat, Nat.shiftRight_eq_div_pow, BitVec.ofNat_eq_ofNat, BitVec.toNat_ofNat,
    Nat.zero_mod] at h'
  exact ⟨⟨w.toNat, by omega⟩, by simp⟩

/-- The decoder accepts a word as a command only if it is the command's word. -/
theorem decodeCmd_ok (w : Word) (c : Command) (h : decodeCmd w = .ok c) : w = encodeCmd c := by
  by_cases hr : cmdReserved w = 0
  · obtain ⟨k, rfl⟩ := word_of_reserved_zero w hr
    revert h
    clear hr
    cases c <;> revert k <;> decide
  · rw [decodeCmd, if_pos hr] at h
    cases h

theorem regAt_eq_cmd_iff (off : Offset) : regAt off = .cmd ↔ off.toNat / 4 = 9 := by
  revert off
  decide

/-- Every register the host writes or reads by name stands at its offset (10_state.md R20). -/
theorem regAt_frame (k : Fin 9) : regAt (BitVec.ofNat 8 (4 * k)) = .fb k := by
  revert k
  decide

end Sys2Proof.Machine
end

