-- ==== Sys2Proof/Laws/State.lean ====
section
/-! SUPPORT. One lemma per field for each shared update of the state, so that no later proof unfolds one. -/

namespace Sys2Proof.Machine

@[simp] theorem setErr_fb (e : ErrCode) (s : State) : (setErr e s).fb = s.fb := rfl
@[simp] theorem setErr_valid (e : ErrCode) (s : State) : (setErr e s).valid = s.valid := rfl
@[simp] theorem setErr_tvalid (e : ErrCode) (s : State) : (setErr e s).tvalid = s.tvalid := rfl
@[simp] theorem setErr_err (e : ErrCode) (s : State) : (setErr e s).err = e := rfl
@[simp] theorem setErr_tcEn (e : ErrCode) (s : State) : (setErr e s).tcEn = s.tcEn := rfl
@[simp] theorem setErr_cksum (e : ErrCode) (s : State) : (setErr e s).cksum = s.cksum := rfl
@[simp] theorem setErr_tadc (e : ErrCode) (s : State) : (setErr e s).tadc = s.tadc := rfl
@[simp] theorem setErr_temp (e : ErrCode) (s : State) : (setErr e s).temp = s.temp := rfl
@[simp] theorem setErr_mag (e : ErrCode) (s : State) : (setErr e s).mag = s.mag := rfl
@[simp] theorem setErr_res (e : ErrCode) (s : State) : (setErr e s).res = s.res := rfl
@[simp] theorem setErr_probe (e : ErrCode) (s : State) : (setErr e s).probe = s.probe := rfl
@[simp] theorem setErr_gas (e : ErrCode) (s : State) : (setErr e s).gas = s.gas := rfl
@[simp] theorem setErr_unit (e : ErrCode) (s : State) : (setErr e s).unit = s.unit := rfl
@[simp] theorem setErr_conc (e : ErrCode) (s : State) : (setErr e s).conc = s.conc := rfl
@[simp] theorem setErr_calIdx (e : ErrCode) (s : State) : (setErr e s).calIdx = s.calIdx := rfl
@[simp] theorem setErr_cal (e : ErrCode) (s : State) : (setErr e s).cal = s.cal := rfl
@[simp] theorem setErr_cfg (e : ErrCode) (s : State) : (setErr e s).cfg = s.cfg := rfl
@[simp] theorem setErr_pending (e : ErrCode) (s : State) : (setErr e s).pending = s.pending := rfl
@[simp] theorem setErr_response (e : ErrCode) (s : State) : (setErr e s).response = s.response := rfl

@[simp] theorem respond_fb (r : BusResponse) (s : State) : (respond r s).fb = s.fb := rfl
@[simp] theorem respond_valid (r : BusResponse) (s : State) : (respond r s).valid = s.valid := rfl
@[simp] theorem respond_tvalid (r : BusResponse) (s : State) : (respond r s).tvalid = s.tvalid := rfl
@[simp] theorem respond_err (r : BusResponse) (s : State) : (respond r s).err = s.err := rfl
@[simp] theorem respond_tcEn (r : BusResponse) (s : State) : (respond r s).tcEn = s.tcEn := rfl
@[simp] theorem respond_cksum (r : BusResponse) (s : State) : (respond r s).cksum = s.cksum := rfl
@[simp] theorem respond_tadc (r : BusResponse) (s : State) : (respond r s).tadc = s.tadc := rfl
@[simp] theorem respond_temp (r : BusResponse) (s : State) : (respond r s).temp = s.temp := rfl
@[simp] theorem respond_mag (r : BusResponse) (s : State) : (respond r s).mag = s.mag := rfl
@[simp] theorem respond_res (r : BusResponse) (s : State) : (respond r s).res = s.res := rfl
@[simp] theorem respond_probe (r : BusResponse) (s : State) : (respond r s).probe = s.probe := rfl
@[simp] theorem respond_gas (r : BusResponse) (s : State) : (respond r s).gas = s.gas := rfl
@[simp] theorem respond_unit (r : BusResponse) (s : State) : (respond r s).unit = s.unit := rfl
@[simp] theorem respond_conc (r : BusResponse) (s : State) : (respond r s).conc = s.conc := rfl
@[simp] theorem respond_calIdx (r : BusResponse) (s : State) : (respond r s).calIdx = s.calIdx := rfl
@[simp] theorem respond_cal (r : BusResponse) (s : State) : (respond r s).cal = s.cal := rfl
@[simp] theorem respond_cfg (r : BusResponse) (s : State) : (respond r s).cfg = s.cfg := rfl
@[simp] theorem respond_pending (r : BusResponse) (s : State) : (respond r s).pending = s.pending := rfl
@[simp] theorem respond_response (r : BusResponse) (s : State) : (respond r s).response = r := rfl

@[simp] theorem complete_fb (e : ErrCode) (s : State) : (complete e s).fb = s.fb := rfl
@[simp] theorem complete_valid (e : ErrCode) (s : State) : (complete e s).valid = s.valid := rfl
@[simp] theorem complete_tvalid (e : ErrCode) (s : State) : (complete e s).tvalid = s.tvalid := rfl
@[simp] theorem complete_err (e : ErrCode) (s : State) : (complete e s).err = e := rfl
@[simp] theorem complete_tcEn (e : ErrCode) (s : State) : (complete e s).tcEn = s.tcEn := rfl
@[simp] theorem complete_cksum (e : ErrCode) (s : State) : (complete e s).cksum = s.cksum := rfl
@[simp] theorem complete_tadc (e : ErrCode) (s : State) : (complete e s).tadc = s.tadc := rfl
@[simp] theorem complete_temp (e : ErrCode) (s : State) : (complete e s).temp = s.temp := rfl
@[simp] theorem complete_mag (e : ErrCode) (s : State) : (complete e s).mag = s.mag := rfl
@[simp] theorem complete_res (e : ErrCode) (s : State) : (complete e s).res = s.res := rfl
@[simp] theorem complete_probe (e : ErrCode) (s : State) : (complete e s).probe = s.probe := rfl
@[simp] theorem complete_gas (e : ErrCode) (s : State) : (complete e s).gas = s.gas := rfl
@[simp] theorem complete_unit (e : ErrCode) (s : State) : (complete e s).unit = s.unit := rfl
@[simp] theorem complete_conc (e : ErrCode) (s : State) : (complete e s).conc = s.conc := rfl
@[simp] theorem complete_calIdx (e : ErrCode) (s : State) : (complete e s).calIdx = s.calIdx := rfl
@[simp] theorem complete_cal (e : ErrCode) (s : State) : (complete e s).cal = s.cal := rfl
@[simp] theorem complete_cfg (e : ErrCode) (s : State) : (complete e s).cfg = s.cfg := rfl
@[simp] theorem complete_pending (e : ErrCode) (s : State) : (complete e s).pending = s.pending := rfl
@[simp] theorem complete_response (e : ErrCode) (s : State) : (complete e s).response = .written := rfl

end Sys2Proof.Machine
end

