-- ==== Sys2Proof/Laws/Exec.lean ====
section
/-! SUPPORT. What `exec` can do, said once: the state every instruction answers, and that none touches the parameters or the events still
to come. -/

namespace Sys2Proof.Machine

/-- The next state of an instruction, without the outcome around it. -/
def effect (i : Instr) (s : State) : State :=
  match i with
  | .build => buildFrame s
  | .check => checkFrame s
  | .thermA => convertTemp (thermCodeA s.fb) s
  | .thermB => convertTemp (thermCodeB s.fb) s
  | .decode => decodeResponse s
  | .corr => correct s
  | .rd width off => if accepted width off then respond (.read (readReg s (regAt off))) s else busErrorRead s
  | .wr width off data => if accepted width off then writeWord off data s else busErrorWrite s

/-- The inversion of `exec`: it answers the next state `effect i s` and nothing else. -/
theorem exec_eq_effect (i : Instr) (s : State) : exec i s = .next (effect i s) := by
  cases i with
  | rd width off =>
    simp only [exec, execRd, effect]
    split <;> rfl
  | wr width off data =>
    simp only [exec, execWr, effect]
    split <;> rfl
  | _ => rfl

theorem exec_next_iff (i : Instr) (s t : State) : exec i s = .next t ↔ t = effect i s := by
  rw [exec_eq_effect]
  exact ⟨fun h => (Host.Outcome.next.inj h).symm, fun h => by rw [h]⟩

/-- THERM's two cases in one record. -/
theorem convertTemp_eq (c : BitVec 16) (s : State) : convertTemp c s =
    { s with
      tadc := c
      temp := (match thermCelsius c.toNat with | some q => BitVec.ofInt 32 q | none => sentinel)
      tvalid := (thermCelsius c.toNat).isSome
      err := (if (thermCelsius c.toNat).isSome then .ok else .singular)
      response := .written } := by
  unfold convertTemp
  cases thermCelsius c.toNat <;> rfl

@[simp] theorem convertTemp_cfg (c : BitVec 16) (s : State) : (convertTemp c s).cfg = s.cfg := by rw [convertTemp_eq]

@[simp] theorem convertTemp_pending (c : BitVec 16) (s : State) : (convertTemp c s).pending = s.pending := by rw [convertTemp_eq]

@[simp] theorem writeReg_cfg (s : State) (r : Reg) (v : Word) : (writeReg s r v).cfg = s.cfg := by cases r <;> rfl

@[simp] theorem writeReg_pending (s : State) (r : Reg) (v : Word) : (writeReg s r v).pending = s.pending := by cases r <;> rfl

/-- A CMD write is one of seven effects. -/
theorem performCmd_cases (w : Word) (s : State) :
    (∃ c : Command, decodeCmd w = .ok c ∧ performCmd w s = effect c.toInstr s) ∨
      ((∃ r, decodeCmd w = .error r) ∧ performCmd w s = illegalCmd s) := by
  unfold performCmd
  cases h : decodeCmd w with
  | ok c => exact .inl ⟨c, rfl, by cases c <;> rfl⟩
  | error r => exact .inr ⟨⟨r, rfl⟩, rfl⟩

/-- An accepted write is a CMD write or a plain register write. -/
theorem writeWord_cases (off : Offset) (v : Word) (s : State) :
    (regAt off = .cmd ∧ writeWord off v s = performCmd v s) ∨
      (regAt off ≠ .cmd ∧ writeWord off v s = respond .written (writeReg s (regAt off) v)) := by
  unfold writeWord
  cases h : regAt off <;> simp

/-- A command's effect keeps the parameters and the events still to come. -/
theorem command_keeps_outside (c : Command) (s : State) :
    (effect c.toInstr s).cfg = s.cfg ∧ (effect c.toInstr s).pending = s.pending := by
  cases c <;> simp [Command.toInstr, effect, buildFrame, checkFrame, decodeResponse, correct]

/-- No instruction writes the parameters or the events still to come. -/
theorem effect_keeps_outside (i : Instr) (s : State) : (effect i s).cfg = s.cfg ∧ (effect i s).pending = s.pending := by
  cases i with
  | rd width off =>
    simp only [effect]
    split <;> exact ⟨rfl, rfl⟩
  | wr width off data =>
    simp only [effect]
    split
    · rcases writeWord_cases off data s with ⟨-, h⟩ | ⟨-, h⟩
      · rcases performCmd_cases data s with ⟨c, -, h'⟩ | ⟨-, h'⟩
        · rw [h, h']
          exact command_keeps_outside c s
        · rw [h, h']
          exact ⟨rfl, rfl⟩
      · rw [h]
        simp
    · exact ⟨rfl, rfl⟩
  | build => exact command_keeps_outside .build s
  | check => exact command_keeps_outside .check s
  | thermA => exact command_keeps_outside .thermA s
  | thermB => exact command_keeps_outside .thermB s
  | decode => exact command_keeps_outside .decode s
  | corr => exact command_keeps_outside .corr s

/-- Every converting code has a row in the table, and no other code has one. -/
theorem thermCelsius_isSome_iff (c : Nat) : (thermCelsius c).isSome ↔ 1 ≤ c ∧ c ≤ 1023 := by
  unfold thermCelsius
  split
  · next h =>
    obtain ⟨k, hk⟩ : ∃ k : Fin 1023, c - 1 = k.val := ⟨⟨c - 1, by omega⟩, rfl⟩
    rw [hk]
    have all : ∀ k : Fin 1023, (thermRomAt k.val).isSome := by decide +kernel
    simp only [all k, true_iff]
    exact h
  · next h => simp [h]

end Sys2Proof.Machine
end

