-- ==== Sys2Proof/Laws/Logarithm.lean ====
section
/-! SUPPORT. Natural logarithms of whole numbers to 50 binary places, as integers: what a proof about the thermistor formula
(41_thermistor.md R120, R121) needs of `ln` over the reals. -/

namespace Sys2Proof.Laws

/-- `2^50 * (ln (n + 1) - ln n)` from below: sixteen terms of its series, each rounded down. -/
def logStep (n : Nat) : Nat :=
  2 ^ 51 / (2 * n + 1) + 2 ^ 51 / ((2 * n + 1) ^ 3 * 3) + 2 ^ 51 / ((2 * n + 1) ^ 5 * 5) + 2 ^ 51 / ((2 * n + 1) ^ 7 * 7) +
    2 ^ 51 / ((2 * n + 1) ^ 9 * 9) + 2 ^ 51 / ((2 * n + 1) ^ 11 * 11) + 2 ^ 51 / ((2 * n + 1) ^ 13 * 13) +
    2 ^ 51 / ((2 * n + 1) ^ 15 * 15) + 2 ^ 51 / ((2 * n + 1) ^ 17 * 17) + 2 ^ 51 / ((2 * n + 1) ^ 19 * 19) +
    2 ^ 51 / ((2 * n + 1) ^ 21 * 21) + 2 ^ 51 / ((2 * n + 1) ^ 23 * 23) + 2 ^ 51 / ((2 * n + 1) ^ 25 * 25) +
    2 ^ 51 / ((2 * n + 1) ^ 27 * 27) + 2 ^ 51 / ((2 * n + 1) ^ 29 * 29) + 2 ^ 51 / ((2 * n + 1) ^ 31 * 31)

/-- `2^50 * ln (n + 1)` from below. -/
def logFloor (n : Nat) : Nat :=
  match n with
  | 0 => 0
  | n + 1 => logFloor n + logStep (n + 1)

theorem div_bounds (a d : Nat) (hd : 0 < d) : ((a / d : Nat) : ℝ) ≤ (a : ℝ) / d ∧ (a : ℝ) / d ≤ ((a / d : Nat) : ℝ) + 1 := by
  refine ⟨Nat.cast_div_le, ?_⟩
  rw [div_le_iff₀ (by exact_mod_cast hd)]
  have h := Nat.lt_div_mul_add hd (a := a)
  have h' : a ≤ (a / d + 1) * d := by rw [Nat.add_mul, Nat.one_mul]; exact h.le
  exact_mod_cast h'

/-- One step of the logarithm lies between its sixteen rounded terms and these plus 17. -/
theorem logStep_bounds (n : Nat) (hn : 1 ≤ n) :
    (logStep n : ℝ) ≤ 2 ^ 50 * (Real.log (n + 1) - Real.log n) ∧
      2 ^ 50 * (Real.log (n + 1) - Real.log n) ≤ logStep n + 17 := by
  have hn' : (1 : ℝ) ≤ n := by exact_mod_cast hn
  set x : ℝ := 1 / (2 * n + 1) with hx
  have hx0 : 0 ≤ x := by positivity
  have hx3 : x ≤ 1 / 3 := by
    rw [hx]
    apply one_div_le_one_div_of_le <;> linarith
  have hlog : Real.log ((1 + x) / (1 - x)) = Real.log (n + 1) - Real.log n := by
    rw [← Real.log_div (by positivity) (by positivity)]
    congr 1
    have h1 : 1 - x ≠ 0 := by linarith
    rw [div_eq_div_iff h1 (by positivity), hx]
    field_simp
    ring
  have lower := Real.sum_range_le_log_div hx0 (by linarith) 16
  have upper := Real.log_div_le_sum_range_add hx0 (by linarith) 16
  rw [hlog] at lower upper
  have tail : x ^ 33 / (1 - x ^ 2) ≤ 1 / 2 ^ 51 := by
    have h2 : x ^ 2 ≤ 1 / 9 := by nlinarith
    have h33 : x ^ 33 ≤ (1 / 3) ^ 33 := pow_le_pow_left₀ hx0 hx3 33
    rw [div_le_iff₀ (by linarith)]
    have : ((1 : ℝ) / 3) ^ 33 ≤ 1 / 2 ^ 51 * (8 / 9) := by norm_num
    nlinarith
  have term : ∀ i : Nat, ((2 ^ 51 / ((2 * n + 1) ^ (2 * i + 1) * (2 * i + 1)) : Nat) : ℝ) ≤ 2 ^ 51 * (x ^ (2 * i + 1) / (2 * i + 1)) ∧
      2 ^ 51 * (x ^ (2 * i + 1) / (2 * i + 1)) ≤ ((2 ^ 51 / ((2 * n + 1) ^ (2 * i + 1) * (2 * i + 1)) : Nat) : ℝ) + 1 := by
    intro i
    have h := div_bounds (2 ^ 51) ((2 * n + 1) ^ (2 * i + 1) * (2 * i + 1)) (by positivity)
    have e : (2 : ℝ) ^ 51 * (x ^ (2 * i + 1) / (2 * i + 1)) =
        ((2 ^ 51 : Nat) : ℝ) / (((2 * n + 1) ^ (2 * i + 1) * (2 * i + 1) : Nat) : ℝ) := by
      push_cast
      rw [hx, one_div, inv_pow]
      field_simp
      norm_num
    rw [e]
    exact h
  have hs : (logStep n : ℝ) = ∑ i ∈ Finset.range 16, ((2 ^ 51 / ((2 * n + 1) ^ (2 * i + 1) * (2 * i + 1)) : Nat) : ℝ) := by
    rw [← Nat.cast_sum]
    congr 1
    simp [Finset.sum_range_succ, logStep]
  have hlow : (logStep n : ℝ) ≤ 2 ^ 51 * ∑ i ∈ Finset.range 16, x ^ (2 * i + 1) / (2 * i + 1) := by
    rw [hs, Finset.mul_sum]
    exact Finset.sum_le_sum fun i _ => (term i).1
  have hup : 2 ^ 51 * ∑ i ∈ Finset.range 16, x ^ (2 * i + 1) / (2 * i + 1) ≤ (logStep n : ℝ) + 16 := by
    rw [hs, Finset.mul_sum]
    calc _ ≤ ∑ i ∈ Finset.range 16, (((2 ^ 51 / ((2 * n + 1) ^ (2 * i + 1) * (2 * i + 1)) : Nat) : ℝ) + 1) :=
          Finset.sum_le_sum fun i _ => (term i).2
      _ = _ := by simp [Finset.sum_add_distrib]
  constructor
  · linarith
  · have : (2 : ℝ) ^ 51 * (x ^ 33 / (1 - x ^ 2)) ≤ 1 := by
      have := mul_le_mul_of_nonneg_left tail (by positivity : (0 : ℝ) ≤ 2 ^ 51)
      linarith
    norm_num at upper
    linarith

/-- The logarithm of `n + 1` to 50 binary places, from below and above. -/
theorem logFloor_bounds (n : Nat) :
    (logFloor n : ℝ) ≤ 2 ^ 50 * Real.log (n + 1) ∧ 2 ^ 50 * Real.log (n + 1) ≤ logFloor n + 17 * n := by
  induction n with
  | zero => simp [logFloor]
  | succ n ih =>
    have h := logStep_bounds (n + 1) (by omega)
    rw [logFloor]
    push_cast at h ⊢
    constructor <;> linarith [h.1, h.2, ih.1, ih.2]

end Sys2Proof.Laws
end

