-- ==== Sys2Proof/Laws/PerInstr.lean ====
section
/-! SUPPORT. A statement about every instruction as syntax, one lemma per constructor: its bus access lies in the block's window
(20_memory.md R50, R51; 30_encoding.md R85). -/

namespace Sys2Proof.Laws.EncodeAddress

/-- Wherever the window stands, the access an instruction is encoded as has its address in it. -/
def Statement (i : Instr) : Prop := ∀ base : Nat, base ≤ (encode base i).addr ∧ (encode base i).addr < base + 256

/-- A command's write goes to CMD. -/
theorem command_in_window (base : Nat) (c : Command) :
    base ≤ (encodeCmdWrite base c).addr ∧ (encodeCmdWrite base c).addr < base + 256 := by
  have h : (encodeCmdWrite base c).addr = base + 0x24 := rfl
  omega

/-- An offset names an address in the window. -/
theorem offset_in_window (base : Nat) (off : Offset) : base ≤ base + off.toNat ∧ base + off.toNat < base + 256 := by
  have h := off.isLt
  omega

theorem build : Statement .build := fun base => command_in_window base .build

theorem check : Statement .check := fun base => command_in_window base .check

theorem thermA : Statement .thermA := fun base => command_in_window base .thermA

theorem thermB : Statement .thermB := fun base => command_in_window base .thermB

theorem decode : Statement .decode := fun base => command_in_window base .decode

theorem corr : Statement .corr := fun base => command_in_window base .corr

theorem rd (width : Width) (off : Offset) : Statement (.rd width off) := fun base => offset_in_window base off

theorem wr (width : Width) (off : Offset) (data : Word) : Statement (.wr width off data) := fun base => offset_in_window base off

end Sys2Proof.Laws.EncodeAddress
end

