-- ==== Sys2Proof/Tests/Slice0.lean ====
section
/-! SUPPORT. The model's own tests: well-formedness, words written out from the encodings of 30_encoding.md, single steps whose results are
taken from 95_test_vectors.md, and for each statement with hypotheses a witness that meets them. -/

namespace Sys2Proof.Tests

open Sys2Proof Sys2Proof.Machine

/-! ### Small states -/

/-- Three slots of the test table TT of 95_test_vectors.md section V4: CO, H2S and HF; every other band is disabled. -/
def testTable : CalTable :=
  let full : Band := ⟨0x80000000, 0x7FFFFFFF, 0x17, 0, 0, 1, 0⟩
  let none8 : Vector Band 8 := Vector.replicate 8 ⟨0, 0, 0, 0, 0, 0, 0⟩
  (((Vector.replicate 11 none8).set 0
    ((none8.set 0 ⟨0xFFEC0000, 0x00140000, 0x0D, 5000, 900000, 0, 0⟩).set 1
      ⟨0x00140000, 0x00280000, 0x19, 5000, 900000, 300000, 0xFFA47280⟩)).set 1 (none8.set 0 full)).set 9
    (none8.set 0 ⟨0x000A0000, 0x000A0000, 0x07, 0, 0, 0, 0⟩)

/-- Parameters without the free value. -/
def testConfig : Config := ⟨0x1000, defaultOthers, testTable⟩

/-- The reset state under them. -/
def start : State := State.resetWith testConfig

/-- That state with a frame loaded. -/
def loaded (f : Frame) : State := { start with fb := f }

/-- That state ready for CORR with compensation on. -/
def ready (g : Gas) (mag : BitVec 16) (temp : Word) : State := { start with tcEn := true, gas := g, mag := mag, temp := temp, tvalid := true }

/-- What `f` sees in the next state. -/
def seen {α : Type} (o : Host.Outcome State Fault Refusal) (f : State → α) : Option α :=
  match o with
  | .next t => some (f t)
  | .fault _ => none
  | .refused _ => none

/-! ### Well-formedness (log entry 18) -/

theorem test_wf_refuses_a_command_spelled_as_a_write :
    [0x00000001, 0x00000002, 0x00000003, 0x00000013, 0x00000004, 0x00000005].all (fun w => !(Instr.wr .word 0x24 w).wf) = true := by
  decide

theorem test_wf_accepts_an_illegal_word : (Instr.wr .word 0x24 0x00000015).wf = true := by decide

theorem test_wf_accepts_other_writes : (Instr.wr .half 0x24 1).wf = true ∧ (Instr.wr .word 0x28 1).wf = true ∧ (Instr.rd .word 0x24).wf = true := by
  decide

/-! ### Decoding, words written out from R80, R82 and R85 -/

theorem test_decode_build : decodeTableWord 32 0b00000000000000000000000000000001 = some .build := by decide

theorem test_decode_check : decodeTableWord 32 0b00000000000000000000000000000010 = some .check := by decide

theorem test_decode_thermA : decodeTableWord 32 0b00000000000000000000000000000011 = some .thermA := by decide

theorem test_decode_thermB : decodeTableWord 32 0b00000000000000000000000000010011 = some .thermB := by decide

theorem test_decode_decode : decodeTableWord 32 0b00000000000000000000000000000100 = some .decode := by decide

theorem test_decode_corr : decodeTableWord 32 0b00000000000000000000000000000101 = some .corr := by decide

theorem test_decode_rd : decodeTableWord 16 0b000101000 = some (.rd .word 0x28) := by decide

theorem test_decode_wr : decodeTableWord 48 0b00000000000000000000000010000110100001000 = some (.wr .word 0x08 0x86) := by decide

/-- The words of V5 that are ILLEGAL, each by its reason. -/
theorem test_decode_illegal :
    [0x00000000, 0x00000006, 0x00000007, 0x00000008, 0x0000000F].map decodeCmd = List.replicate 5 (.error .reservedOp) ∧
    [0x00000011, 0x00000012, 0x00000014, 0x00000015].map decodeCmd = List.replicate 4 (.error .straySelect) ∧
    [0x00000021, 0x80000001].map decodeCmd = List.replicate 2 (.error .reservedBits) := by
  decide

theorem test_decode_outside_window :
    decodeAccess 0x1000 ⟨false, .word, 0xFFF, 0⟩ = .error .outsideWindow ∧ decodeAccess 0x1000 ⟨false, .word, 0x1100, 0⟩ = .error .outsideWindow ∧
      decodeAccess 0x1000 ⟨false, .word, 0x10FF, 0⟩ = .ok (.rd .word 0xFF) := by
  decide

theorem test_reset_runs_a_placed_word : seen (step (State.reset.withFetchWord 32 1)) (fun t => (t.fb, t.pending)) =
    some (#v[0xFF, 0x01, 0, 0, 0, 0, 0, 0, 0xFF], []) := by
  decide

/-! ### One step each, results from 95_test_vectors.md -/

theorem test_build : seen (exec .build (loaded #v[0x12, 0x34, 0x86, 0, 0, 0, 0, 0, 0x56])) (fun t => (t.fb, t.valid, t.err)) =
    some (#v[0xFF, 0x01, 0x86, 0, 0, 0, 0, 0, 0x79], false, .ok) := by
  decide

theorem test_build_carry : seen (exec .build (loaded #v[0, 0, 0x89, 0x01, 0x00, 0xB4, 0, 0, 0])) (fun t => t.cksum) = some 0xC1 := by decide

theorem test_check_good : seen (exec .check (loaded #v[0xFF, 0x86, 0x00, 0x64, 0x04, 0x01, 0x00, 0x00, 0x11]))
    (fun t => (t.cksum, t.valid, t.err)) = some (0x11, true, .ok) := by
  decide

theorem test_check_bad : seen (exec .check (loaded #v[0xFF, 0x86, 0x00, 0x65, 0x04, 0x01, 0x00, 0x00, 0x11]))
    (fun t => (t.cksum, t.valid, t.err)) = some (0x10, false, .badsum) := by
  decide

theorem test_thermA : seen (exec .thermA (loaded #v[0, 0, 0x02, 0x00, 0, 0, 0x03, 0xFF, 0])) (fun t => (t.tadc, t.temp, t.tvalid, t.err)) =
    some (0x0200, 0x00190000, true, .ok) := by
  decide

theorem test_thermA_singular : seen (exec .thermA (loaded #v[0, 0, 0x04, 0x00, 0, 0, 0x03, 0xFF, 0]))
    (fun t => (t.tadc, t.temp, t.tvalid, t.err)) = some (0x0400, 0x80000000, false, .singular) := by
  decide

theorem test_thermB : seen (exec .thermB (loaded #v[0, 0, 0x02, 0x00, 0, 0, 0x03, 0xFF, 0])) (fun t => (t.tadc, t.temp, t.tvalid, t.err)) =
    some (0x03FF, 0xFFA7E296, true, .ok) := by
  decide

theorem test_thermB_hot : seen (exec .thermB (loaded #v[0, 0, 0x02, 0x00, 0, 0, 0x00, 0x64, 0])) (fun t => t.temp) = some 0x0061BE6E := by
  decide

theorem test_decode_step : seen (exec .decode (loaded #v[0xFF, 0x86, 0x12, 0x34, 0x45, 0x02, 0, 0, 0]))
    (fun t => (readReg t .rawconc, readReg t .gas, t.err)) = some (0x00021234, 0x00002B45, .ok) := by
  decide

theorem test_decode_step_priority : seen (exec .decode (loaded #v[0xFF, 0x86, 0x12, 0x34, 0xFF, 0x07, 0, 0, 0]))
    (fun t => (readReg t .rawconc, readReg t .gas, t.err)) = some (0x00001234, 0x00000FFF, .rescode) := by
  decide

theorem test_corr_divides_then_subtracts : seen (exec .corr (ready .co 100 0x00190000)) (fun t => (t.conc, t.err)) = some (0x00600F9C, .ok) := by
  decide

theorem test_corr_ties_to_even : seen (exec .corr (ready .h2s 1 0x0016E360)) (fun t => (t.conc, t.err)) = some (0x0000FFFE, .ok) := by
  decide

theorem test_rd_status : seen (exec (.rd .word 0x28) { start with valid := true, err := .singular }) (fun t => t.response) =
    some (.read 0x00000031) := by
  decide

theorem test_rd_bus_error : seen (exec (.rd .word 0x26) start) (fun t => (t.response, t.err)) = some (.readError 0, .ok) := by decide

theorem test_wr_frame_byte : seen (exec (.wr .word 0x0C 0x1234) start) (fun t => (readReg t (.fb 3), t.response)) = some (0x34, .written) := by
  decide

theorem test_wr_flags_word : seen (exec (.wr .word 0x4C 0xFFFFFFFF) { start with calIdx := 0x042 }) (fun t => (readReg t .calData, t.err)) =
    some (0x1F, .ok) := by
  decide

/-! ### Witnesses: the hypotheses of each statement can be met -/

theorem test_witness_ResetRegistersReadTheirResetValues :
    [0x00, 0x20, 0x24, 0x38, 0x40, 0x48, 0x50, 0xFC].all (fun off : Offset => off.toNat % 4 == 0 && off != 0x4C) = true := by
  decide

theorem test_witness_ResetFieldsAndTable : ∃ (f : BitVec 10 → Word) (cfg : Config), cfg.calDefault = tableOfWords f ∧
    calRead (State.resetWith cfg).cal 0x040 = 7 ∧ calRead (State.resetWith cfg).cal 0x2FE = 7 ∧
    calRead (State.resetWith cfg).cal 0x2FF = 0 ∧ calRead (State.resetWith cfg).cal 0x03F = 0 ∧
    calRead (State.resetWith cfg).cal 0x300 = 0 :=
  ⟨fun _ => 7, ⟨0, defaultOthers, tableOfWords fun _ => 7⟩, rfl, by decide, by decide, by decide, by decide, by decide⟩

theorem test_witness_ResetAbandonsAHeldAccess :
    { start with pending := [.reset] }.pending = HostEvent.reset :: [] ∧
      { start with pending := [.resetDuring ⟨true, .word, 0x1024, 5⟩] }.pending = HostEvent.resetDuring ⟨true, .word, 0x1024, 5⟩ :: [] := by
  decide

theorem test_witness_DefaultTableHasNoCoBandAtMinusThirty : ∃ s : State, s.cal = defaultConfig.calDefault ∧ s.tcEn = true ∧ s.tvalid = true ∧
    s.gas = .co ∧ s.temp = 0xFFE20000 :=
  ⟨{ State.reset with tcEn := true, tvalid := true, gas := .co, temp := 0xFFE20000 }, rfl, rfl, rfl, rfl, rfl⟩

theorem test_witness_DecodeOfEncode : [Instr.build, .rd .byte 0xFF, .wr .word 0x24 0x00000015, .wr .word 0x00 0xFFFFFFFF].all Instr.wf = true := by
  decide

theorem test_witness_EncodeOfDecode : decodeAccess 0x1000 ⟨false, .word, 0x1000, 5⟩ = .ok (.rd .word 0x00) ∧
    decodeAccess 0x1000 ⟨true, .word, 0x10FC, 5⟩ = .ok (.wr .word 0xFC 5) := by
  decide

theorem test_witness_TableWordIsRun : decodeTableWord 32 0x13 = some .thermB := by decide

theorem test_witness_StepRunsTheDecodedAccess :
    { start with pending := [.access ⟨true, .word, 0x1024, 5⟩] }.pending = HostEvent.access ⟨true, .word, 0x1024, 5⟩ :: [] ∧
      decodeAccess start.cfg.base ⟨true, .word, 0x1024, 5⟩ = .ok .corr := by
  decide

theorem test_witness_NothingElseReachesTheBlock : (0xFFF < start.cfg.base ∧ start.cfg.base + 256 ≤ 0x1100) ∧ start.pending = [] := by decide

theorem test_witness_AccessesRunInOrder : ∃ is : List Instr, is ≠ [] ∧ (∀ i ∈ is, i.wf = true) ∧
    { start with pending := is.map fun i => .access (encode 0x1000 i) }.pending = is.map fun i => .access (encode start.cfg.base i) :=
  ⟨[.wr .word 0x08 0x86, .build, .check], by decide, by decide, rfl⟩

theorem test_witness_ReadReturnsTheRegister : [0x00, 0x20, 0x24, 0x4C, 0x50, 0xFC].all (fun off : Offset => off.toNat % 4 == 0) = true := by
  decide

theorem test_witness_BusErrorChangesNothing : (Width.byte ≠ .word ∧ (0x24 : Offset).toNat % 4 = 0) ∧ (0x26 : Offset).toNat % 4 ≠ 0 := by decide

theorem test_witness_WriteEffects : [0x28, 0x44, 0x50, 0xFC].all (fun off : Offset => off.toNat % 4 == 0 &&
    ([0x28, 0x30, 0x34, 0x3C, 0x40, 0x44].contains off || decide (0x50 ≤ off.toNat))) = true := by
  decide

theorem test_witness_CalDataWriteStoresOneWord : [0x040, 0x2FE].all (fun i : BitVec 10 =>
    decide (1 ≤ i.toNat / 64 ∧ i.toNat / 64 ≤ 11 ∧ i.toNat % 8 ≤ 6)) = true ∧ [0x03F, 0x047, 0x2FF, 0x300].all (fun i : BitVec 10 =>
    decide (1 ≤ i.toNat / 64 ∧ i.toNat / 64 ≤ 11 ∧ i.toNat % 8 ≤ 6)) = false := by
  decide

theorem test_witness_ReadAfterWrite : [0x00, 0x20, 0x2C, 0x38, 0x48, 0x4C].all (fun off : Offset => off.toNat % 4 == 0 &&
    (decide (off.toNat ≤ 0x20) || [0x2C, 0x38, 0x48, 0x4C].contains off)) = true := by
  decide

theorem test_witness_CmdWritePerformsTheCommand : decodeCmd 0x00000001 = .ok .build ∧ decodeCmd 0x00000013 = .ok .thermB := by decide

theorem test_witness_IllegalWordOnlySetsErr : [0x00000000, 0x00000006, 0x00000011, 0x00000021].all (fun w : Word =>
    !([0x00000001, 0x00000002, 0x00000003, 0x00000013, 0x00000004, 0x00000005] : List Word).contains w) = true := by
  decide

theorem test_witness_AccessesAreIdempotent : ∃ t, exec (.wr .word 0x24 0x00000004) start = .next t ∧ t ≠ start :=
  ⟨_, rfl, fun h => absurd (congrArg State.response h) (by decide)⟩

theorem test_witness_CheckDetectionPower : (1 : Fin 9) ≠ 0 ∧ (8 : Fin 9) ≠ 0 ∧ (1 : Fin 9) ≠ 8 ∧ (Equiv.swap (1 : Fin 9) 8) 0 = 0 ∧
    (5 : Byte) ≠ start.fb[(8 : Fin 9)] ∧ FrameValid start :=
  ⟨by decide, by decide, by decide, by decide, by decide, _, rfl, by decide⟩

theorem test_witness_BuiltFrameChecks : ∃ t u, exec .build start = .next t ∧ exec (.wr .word 0x48 5) t = .next u ∧ u.fb = t.fb :=
  ⟨_, _, rfl, rfl, by decide⟩

theorem test_witness_ThermConvertsOrReportsSingular : [0, 1, 1023, 1024, 65535].all (fun c : Nat =>
    let f : Frame := #v[0, 0, BitVec.ofNat 8 (c / 256), BitVec.ofNat 8 c, 0, 0, BitVec.ofNat 8 (c / 256), BitVec.ofNat 8 c, 0]
    decide (c = 256 * (loaded f).fb[2].toNat + (loaded f).fb[3].toNat ∧ c = 256 * (loaded f).fb[6].toNat + (loaded f).fb[7].toNat)) = true := by
  decide

theorem test_witness_ThermTableIsCorrectlyRounded : (1 ≤ 1 ∧ 1 ≤ 1023) ∧ (1 ≤ 1023 ∧ 1023 ≤ 1023) := by decide

theorem test_witness_ThermResultsDecrease : thermCelsius 1 = some 32369885 ∧ thermCelsius (1 + 1) = some 25528708 ∧
    thermCelsius 1022 = some (-5295719) ∧ thermCelsius (1022 + 1) = some (-5774698) := by
  decide

theorem test_witness_ClassifyIsThePartialMap : configOk testConfig = true ∧ otherGases[(0 : Fin 10).val]? = some .h2s ∧
    otherGases[(9 : Fin 10).val]? = some .ph3 ∧ (∀ k : Fin 10, testConfig.others[k].code ≠ 0x00) := by
  decide

theorem test_witness_DefaultProbeCodes : State.reset.cfg = defaultConfig ∧ ∀ p : Byte, ({ State.reset with fb := State.reset.fb.set 4 p }).cfg =
    defaultConfig ∧ ({ State.reset with fb := State.reset.fb.set 4 p }).fb[4] = p :=
  ⟨rfl, fun _ => ⟨rfl, rfl⟩⟩

theorem test_witness_CorrWithoutTheTable : start.tcEn = false ∧ (ready .o2 1 0).gas.code = 0 ∧ (ready .unknown 1 0).tcEn = true ∧
    (ready .unknown 1 0).gas.code = 15 := by
  decide

theorem test_witness_CorrWithoutATemperature : ∃ s s' : State, s.tcEn = true ∧ s.gas.code.toNat = 1 ∧ s.tvalid = false ∧ s'.tcEn = true ∧
    s'.gas.code.toNat = 11 ∧ s'.tvalid = false :=
  ⟨{ start with tcEn := true, gas := .co }, { start with tcEn := true, gas := .ph3 }, by decide⟩

/-- A band of one point, both bounds inclusive (TT's HF band). -/
theorem test_witness_LeastAcceptingBandIsSelected : ∃ (e : Band) (t : Int), e.hi.toInt ≤ e.lo.toInt ∧ e.accepts t = true :=
  ⟨⟨0x000A0000, 0x000A0000, 0x07, 0, 0, 0, 0⟩, 0x000A0000, by decide⟩

/-- The state under a table whose every band is `e`, ready for CORR of CO at 25 °C. -/
def everyBand (e : Band) (mag : BitVec 16) : State := { ready .co mag 0x00190000 with cal := Vector.replicate 11 (Vector.replicate 8 e) }

/-- A table of one wide band everywhere selects band 0. -/
theorem everyBand_selected (e : Band) (mag : BitVec 16) (h : Reference.Accepts (everyBand e mag) 1 0) :
    Reference.Selected (everyBand e mag) (everyBand e mag).gas.code.toNat 0 :=
  ⟨by decide, h, fun k hk => absurd hk (Nat.not_lt_zero k)⟩

/-- Band NH3, HCL and SO2 of TT: a denominator of 0, a negative value, and a value of exactly 0. -/
theorem test_witness_UndefinedAndNegativeValuesGiveZero :
    (∃ s : State, s.tcEn = true ∧ s.gas.code.toNat = 1 ∧ s.tvalid = true ∧ Reference.Selected s s.gas.code.toNat 0 ∧
      Reference.entryFlag s s.gas.code.toNat 0 3 = true ∧ Reference.denomQ s s.gas.code.toNat 0 = 0) ∧
    (∃ s : State, s.tcEn = true ∧ s.gas.code.toNat = 1 ∧ s.tvalid = true ∧ Reference.Selected s s.gas.code.toNat 0 ∧
      Reference.entryFlag s s.gas.code.toNat 0 3 = false ∧ Reference.bandQ s s.gas.code.toNat 0 < 0) ∧
    (∃ s : State, s.tcEn = true ∧ s.gas.code.toNat = 1 ∧ s.tvalid = true ∧ Reference.Selected s s.gas.code.toNat 0 ∧
      Reference.entryFlag s s.gas.code.toNat 0 3 = false ∧ Reference.bandQ s s.gas.code.toNat 0 = 0) :=
  ⟨⟨everyBand ⟨0x80000000, 0x7FFFFFFF, 0x0F, 0, 0, 0, 0⟩ 100, rfl, rfl, rfl,
      everyBand_selected _ _ (by unfold Reference.Accepts; decide), by decide, by decide +kernel⟩,
    ⟨everyBand ⟨0x80000000, 0x7FFFFFFF, 0x17, 0, 0, 0, 5000000⟩ 3, rfl, rfl, rfl,
      everyBand_selected _ _ (by unfold Reference.Accepts; decide), by decide, by decide +kernel⟩,
    ⟨everyBand ⟨0x80000000, 0x7FFFFFFF, 0x17, 0, 0, 0, 5000000⟩ 5, rfl, rfl, rfl,
      everyBand_selected _ _ (by unfold Reference.Accepts; decide), by decide, by decide +kernel⟩⟩

/-- Two states that differ in the frame and in another gas's slot. -/
theorem test_witness_CorrDependsOnItsOperandsOnly : ∃ s s' : State, s ≠ s' ∧ s.tcEn = s'.tcEn ∧ s.gas = s'.gas ∧ s.mag = s'.mag ∧
    s.res = s'.res ∧ s.temp = s'.temp ∧ s.tvalid = s'.tvalid ∧ (∀ b w, b < 8 → w < 7 →
      Reference.entryWord s s.gas.code.toNat b w = Reference.entryWord s' s.gas.code.toNat b w) :=
  ⟨ready .co 100 0x00190000, { ready .co 100 0x00190000 with valid := true }, fun h => absurd (congrArg State.valid h) (by decide),
    rfl, rfl, rfl, rfl, rfl, rfl, fun _ _ _ _ => rfl⟩

/-- A band that only subtracts a large negative offset: it saturates (log entry 17). -/
theorem test_witness_OnlyADividingBandSaturates : ∃ s t : State, exec .corr s = .next t ∧ t.err = .sat ∧
    Reference.Selected s s.gas.code.toNat 0 :=
  ⟨everyBand ⟨0x80000000, 0x7FFFFFFF, 0x17, 0, 0, 0, 0x80000000⟩ 65535, _, rfl, by decide,
    everyBand_selected _ _ (by unfold Reference.Accepts; decide)⟩

theorem test_witness_NoValidityGate : ∃ t, exec .thermA (loaded #v[0, 0, 0x02, 0, 0, 0, 0, 0, 0]) = .next t ∧ t.tvalid = true :=
  ⟨_, rfl, by decide⟩

theorem test_witness_FlagWriters : seen (exec .check start) (fun t => t.valid != start.valid) = some true ∧
    seen (exec (.wr .word 0x38 0) start) (fun t => t.tvalid != start.tvalid) = some true ∧
    seen (exec .thermA start) (fun t => t.err != start.err) = some true ∧
    seen (exec (.wr .word 0x24 0) start) (fun t => t.err != start.err) = some true := by
  decide

theorem test_witness_RegisterWriters : seen (exec .build start) (fun t => t.fb != start.fb && t.cksum != start.cksum) = some true ∧
    seen (exec (.wr .word 0x2C 1) start) (fun t => t.tcEn != start.tcEn) = some true ∧
    seen (exec .thermA (loaded #v[0, 0, 2, 0, 0, 0, 0, 0, 0])) (fun t => t.tadc != start.tadc && t.temp != start.temp) = some true ∧
    seen (exec .decode (loaded #v[0, 0, 1, 0, 5, 1, 0, 0, 0])) (fun t => t.mag != start.mag && t.gas != start.gas) = some true ∧
    seen (exec .corr { start with mag := 1 }) (fun t => t.conc != start.conc) = some true ∧
    seen (exec (.wr .word 0x48 5) start) (fun t => t.calIdx != start.calIdx) = some true ∧
    seen (exec (.wr .word 0x4C 5) { start with calIdx := 0x040 }) (fun t => t.cal != start.cal) = some true := by
  decide

theorem test_witness_StepKeepsTheInvariant : ∃ s t, BlockInv s ∧ s.pending ≠ [] ∧ step s = .next t :=
  ⟨{ start with pending := [.access ⟨true, .word, 0x1038, 5⟩] }, _,
    ⟨by decide, fun _ => rfl, ⟨fun _ => rfl, fun _ => rfl⟩, .inr ⟨rfl, rfl⟩⟩, by decide, rfl⟩

theorem test_witness_PseudoInstructions : [0x040, 0x2FE, 0xFFFFF842].all (fun i : Word =>
    decide (1 ≤ i.toNat % 1024 / 64 ∧ i.toNat % 1024 / 64 ≤ 11 ∧ i.toNat % 8 ≤ 6)) = true := by
  decide

end Sys2Proof.Tests
end

section
/-! PROOF. The register map and the accepted accesses of the registers, said once: the offset of each register, what a read of it
returns and what a write of it leaves. -/

namespace Sys2Proof.Machine

/-! ### Words and fields -/

/-- Concatenation places the left word above the right one. -/
theorem toNat_append_eq_add {m n : Nat} (x : BitVec m) (y : BitVec n) : (x ++ y).toNat = x.toNat * 2 ^ n + y.toNat := by
  rw [BitVec.toNat_append, ← Nat.shiftLeft_add_eq_or_of_lt y.isLt, Nat.shiftLeft_eq]

/-- A word reduced to its low `n` bits and read back is the word under the mask of these bits. -/
theorem setWidth_setWidth_eq_mask (v : Word) (n : Nat) (hn : n ≤ 32) :
    (v.setWidth n).setWidth 32 = v &&& BitVec.ofNat 32 (2 ^ n - 1) := by
  have hmask : 2 ^ n - 1 < 2 ^ 32 := by
    have := Nat.pow_le_pow_right (n := 2) (by decide) hn
    omega
  apply BitVec.eq_of_toNat_eq
  have hlow : v.toNat % 2 ^ n < 2 ^ 32 := (Nat.mod_le _ _).trans_lt v.isLt
  rw [BitVec.toNat_setWidth, BitVec.toNat_setWidth, BitVec.toNat_and, BitVec.toNat_ofNat, Nat.mod_eq_of_lt hmask,
    Nat.and_two_pow_sub_one_eq_mod, Nat.mod_eq_of_lt hlow]

/-! ### The register map -/

/-- The offset at which a register stands (10_state.md R20); for `reserved`, the first of its offsets. -/
def regOffset (r : Reg) : Offset :=
  match r with
  | .fb k => BitVec.ofNat 8 (4 * k)
  | .cmd => 0x24
  | .status => 0x28
  | .ctrl => 0x2C
  | .cksum => 0x30
  | .tadc => 0x34
  | .temp => 0x38
  | .rawconc => 0x3C
  | .gas => 0x40
  | .conc => 0x44
  | .calIdx => 0x48
  | .calData => 0x4C
  | .reserved => 0x50

@[simp] theorem regAt_regOffset (r : Reg) : regAt (regOffset r) = r := by
  cases r with
  | fb k => exact regAt_frame k
  | _ => rfl

@[simp] theorem accepted_regOffset (r : Reg) : accepted .word (regOffset r) = true := by
  cases r with
  | fb k => revert k; decide
  | _ => rfl

/-- A word-aligned offset is reserved, or the offset of the register it names. -/
theorem aligned_reserved_or_regOffset (off : Offset) (h : off.toNat % 4 = 0) :
    regAt off = .reserved ∨ off = regOffset (regAt off) := by
  revert off
  decide

/-- A register that has one offset stands at an aligned offset only if that is its own. -/
theorem regAt_eq_iff (r : Reg) (h : r ≠ .reserved) (off : Offset) (ha : off.toNat % 4 = 0) :
    regAt off = r ↔ off = regOffset r := by
  constructor
  · rintro rfl
    exact (aligned_reserved_or_regOffset off ha).resolve_left h
  · rintro rfl
    exact regAt_regOffset r

theorem accepted_iff (width : Width) (off : Offset) : accepted width off = true ↔ width = .word ∧ off.toNat % 4 = 0 := by
  simp [accepted]

/-! ### Accepted accesses -/

/-- A 32-bit read of an aligned offset answers the value of the register there and changes nothing else (20_memory.md R54). -/
theorem exec_rd_aligned (off : Offset) (ha : off.toNat % 4 = 0) (s : State) :
    exec (.rd .word off) s = .next { s with response := .read (readReg s (regAt off)) } := by
  rw [exec_eq_effect, effect, if_pos ((accepted_iff _ _).mpr ⟨rfl, ha⟩)]
  rfl

theorem exec_rd_regOffset (r : Reg) (s : State) :
    exec (.rd .word (regOffset r)) s = .next { s with response := .read (readReg s r) } := by
  obtain ⟨-, ha⟩ := (accepted_iff _ _).mp (accepted_regOffset r)
  rw [exec_rd_aligned _ ha, regAt_regOffset]

/-- A write of a register other than CMD is the register write and its completion. -/
theorem exec_wr_regOffset (r : Reg) (h : r ≠ .cmd) (v : Word) (s : State) :
    exec (.wr .word (regOffset r) v) s = .next (respond .written (writeReg s r v)) := by
  rw [exec_eq_effect, effect, if_pos (accepted_regOffset r)]
  rcases writeWord_cases (regOffset r) v s with ⟨hcmd, -⟩ | ⟨-, hw⟩
  · exact absurd ((regAt_regOffset r).symm.trans hcmd) h
  · rw [hw, regAt_regOffset]

/-- Reading does not see the bus's last answer. -/
@[simp] theorem readReg_respond (a : BusResponse) (s : State) (r : Reg) : readReg (respond a s) r = readReg s r := by
  cases r <;> rfl

/-! ### The registers as numbers -/

/-- STATUS is ERR above two zero bits, TVALID and VALID (R24). -/
theorem readReg_status_toNat (s : State) :
    (readReg s .status).toNat = s.err.code.toNat * 16 + s.tvalid.toNat * 2 + s.valid.toNat := by
  simp only [readReg, statusWord, toNat_append_eq_add, BitVec.toNat_ofNat, BitVec.toNat_ofBool, Nat.zero_mod]
  omega

/-- RAWCONC is RES above the 16 bits of MAG (R29). -/
theorem readReg_rawconc_toNat (s : State) : (readReg s .rawconc).toNat = s.res.val * 65536 + s.mag.toNat := by
  simp only [readReg, toNat_append_eq_add, BitVec.toNat_ofNat, Nat.zero_mod]
  omega

/-- GAS is UNIT above GASID above the 8 bits of PROBE (R30). -/
theorem readReg_gas_toNat (s : State) :
    (readReg s .gas).toNat = s.unit.code.toNat * 4096 + s.gas.code.toNat * 256 + s.probe.toNat := by
  simp only [readReg, toNat_append_eq_add, BitVec.toNat_ofNat, Nat.zero_mod]
  omega

theorem errCode_code_le (e : ErrCode) : e.code.toNat ≤ 10 := by cases e <;> decide

theorem unitCode_code_le (u : UnitCode) : u.code.toNat ≤ 2 := by cases u <;> decide

theorem gas_code_known_or_unknown (g : Gas) : g.code.toNat ≤ 11 ∨ g.code.toNat = 15 := by cases g <;> decide

/-- Settles O47: each word is the sum of its fields, and each field holds a code that has a name. -/
theorem reservedCodesAreNeverRead : Obligations.ReservedCodesAreNeverRead := by
  intro s
  rw [readReg_status_toNat, readReg_rawconc_toNat, readReg_gas_toNat]
  have herr := errCode_code_le s.err
  have hunit := unitCode_code_le s.unit
  have hgas := gas_code_known_or_unknown s.gas
  have htvalid := s.tvalid.toNat_le
  have hvalid := s.valid.toNat_le
  have hmag := s.mag.isLt
  have hprobe := s.probe.isLt
  refine ⟨?_, ?_, ?_, ?_, ?_, ?_⟩ <;> omega

end Sys2Proof.Machine
end

section
/-! PROOF. The part of a word that a calibration word keeps. -/

namespace Sys2Proof.Machine

theorem calWordNo_lt (i : BitVec 10) : calWordNo i < 8 := by
  rw [calWordNo_eq]
  omega

/-- The part of the word `v` that word `i` of the calibration table keeps: bits [4:0] of FLAGS, all of any other implemented word, and
nothing where the word is not implemented (10_state.md R37). -/
def keptWord (i : BitVec 10) (v : Word) : Word :=
  if 1 ≤ i.toNat / 64 ∧ i.toNat / 64 ≤ 11 ∧ i.toNat % 8 ≤ 6 then (if i.toNat % 8 = 2 then v &&& 0x1F else v) else 0

/-- `keptWord` by the gas and then by the word number of the index, as the table is laid out. -/
theorem keptWord_eq (i : BitVec 10) (v : Word) :
    keptWord i v =
      if 1 ≤ calGas i ∧ calGas i ≤ 11 then (if calWordNo i = 2 then v &&& 0x1F else if calWordNo i ≤ 6 then v else 0) else 0 := by
  rw [keptWord, calGas_eq, calWordNo_eq]
  by_cases hg : 1 ≤ i.toNat / 64 ∧ i.toNat / 64 ≤ 11
  · by_cases hflags : i.toNat % 8 = 2
    · simp [hg, hflags]
    · simp [hg, hflags]
  · rw [if_neg hg, if_neg fun ⟨hlow, hhigh, _⟩ => hg ⟨hlow, hhigh⟩]

end Sys2Proof.Machine
end

section
/-! PROOF. The state after reset: its registers, and the words of a table laid out from a 1024-word function. -/

namespace Sys2Proof.Machine

/-- What a register other than CAL_DATA reads as after reset (10_state.md R20). -/
theorem readReg_resetWith (cfg : Config) (r : Reg) (h : r ≠ .calData) :
    readReg (State.resetWith cfg) r = if r = .temp then 0x80000000 else if r = .gas then 0x00000F00 else 0 := by
  cases r with
  | fb k => simp [readReg, State.resetWith]
  | calData => exact absurd rfl h
  | status | rawconc | gas => simp only [readReg, State.resetWith]; decide
  | _ => rfl

/-- Settles O1: the read answers `readReg`, and the three offsets that the statement names are those of TEMP, GAS and CAL_DATA. -/
theorem resetRegistersReadTheirResetValues : Obligations.ResetRegistersReadTheirResetValues := by
  intro cfg off ha hcal
  have temp : regAt off = .temp ↔ off = 0x38 := regAt_eq_iff .temp (by decide) off ha
  have gas : regAt off = .gas ↔ off = 0x40 := regAt_eq_iff .gas (by decide) off ha
  have calData : regAt off = .calData ↔ off = 0x4C := regAt_eq_iff .calData (by decide) off ha
  have hread := readReg_resetWith cfg (regAt off) (fun h => hcal (calData.mp h))
  simp only [temp, gas] at hread
  rw [exec_rd_aligned off ha, hread]

/-- An index is put together from its gas slot, band and word number. -/
theorem calIndex_of_parts (i : BitVec 10) (hg : 1 ≤ calGas i ∧ calGas i ≤ 11) :
    calIndex ⟨calGas i - 1, by omega⟩ (calBand i) ⟨calWordNo i, calWordNo_lt i⟩ = i := by
  have hi := i.isLt
  apply BitVec.eq_of_toNat_eq
  rw [calGas_eq] at hg
  simp only [calIndex, BitVec.toNat_ofNat, calGas_eq, calBand_val, calWordNo_eq]
  omega

@[simp] theorem entry_tableOfWords (f : BitVec 10 → Word) (g : Fin 11) (b : Fin 8) :
    (tableOfWords f).entry g b = bandOfWords f g b := by
  simp [CalTable.entry, tableOfWords]

/-- The words of a band laid out from a table of words: FLAGS within bits [4:0], and word 7 not implemented (R36, R38). -/
theorem word_bandOfWords (f : BitVec 10 → Word) (g : Fin 11) (b w : Fin 8) :
    (bandOfWords f g b).word w =
      if w.val = 2 then f (calIndex g b w) &&& 0x1F else if w.val ≤ 6 then f (calIndex g b w) else 0 := by
  match w with
  | 0 => rfl
  | 1 => rfl
  | 2 => exact setWidth_setWidth_eq_mask _ 5 (by decide)
  | 3 => rfl
  | 4 => rfl
  | 5 => rfl
  | 6 => rfl
  | 7 => rfl

/-- A table laid out from a table of words reads, at every index, the part of that word that is implemented (R36, R37). -/
theorem calRead_tableOfWords (f : BitVec 10 → Word) (i : BitVec 10) : calRead (tableOfWords f) i = keptWord i (f i) := by
  rw [keptWord_eq]
  by_cases hg : 1 ≤ calGas i ∧ calGas i ≤ 11
  · have hword := word_bandOfWords f ⟨calGas i - 1, by omega⟩ (calBand i) ⟨calWordNo i, calWordNo_lt i⟩
    rw [calIndex_of_parts i hg] at hword
    simpa only [calRead, calSlot_some _ hg, if_pos hg, entry_tableOfWords] using hword
  · simp only [calRead, calSlot_none _ hg, if_neg hg]

/-- The kept part of a word whose index is given by its gas, band and word number. -/
theorem keptWord_ofNat (g b w : Nat) (v : Word) (hg : g < 16) (hb : b < 8) (hw : w < 8) :
    keptWord (BitVec.ofNat 10 (64 * g + 8 * b + w)) v =
      if 1 ≤ g ∧ g ≤ 11 ∧ w ≤ 6 then (if w = 2 then v &&& 0x1F else v) else 0 := by
  have hgas : (BitVec.ofNat 10 (64 * g + 8 * b + w)).toNat / 64 = g := by rw [BitVec.toNat_ofNat]; omega
  have hword : (BitVec.ofNat 10 (64 * g + 8 * b + w)).toNat % 8 = w := by rw [BitVec.toNat_ofNat]; omega
  rw [keptWord, hgas, hword]

/-- Settles O2: the fields are those of `State.resetWith`; the table is the one laid out from the words, read by
`calRead_tableOfWords`. -/
theorem resetFieldsAndTable : Obligations.ResetFieldsAndTable := by
  constructor
  · intro cfg
    have hframe : ∀ k : Fin 9, (State.resetWith cfg).fb[k] = 0 := fun k => by simp [State.resetWith]
    exact ⟨hframe, rfl, rfl, rfl, rfl, rfl, rfl, rfl, rfl, rfl, rfl, rfl, rfl, rfl, rfl⟩
  · intro f cfg g b w hg hb hw htable
    have hcal : (State.resetWith cfg).cal = tableOfWords f := htable
    rw [hcal, calRead_tableOfWords, keptWord_ofNat g b w _ hg hb hw]

end Sys2Proof.Machine
end

section
/-! PROOF. A read right after a write at the same offset, the write of CAL_DATA among them. -/

namespace Sys2Proof.Machine

/-- The table reads, at the index just written, the part of the word that is implemented (R37). -/
theorem calRead_calWrite_same_keptWord (t : CalTable) (i : BitVec 10) (v : Word) :
    calRead (calWrite t i v) i = keptWord i v := by
  rw [calRead_calWrite_same, keptWord_eq]

/-- Settles O16: `calWrite` at CAL_IDX, by its two read laws. -/
theorem calDataWriteStoresOneWord : Obligations.CalDataWriteStoresOneWord := by
  intro s v
  exact ⟨_, exec_wr_regOffset .calData (by decide) v s, rfl, fun i hi => calRead_calWrite_other s.cal s.calIdx i v hi,
    calRead_calWrite_same_keptWord s.cal s.calIdx v⟩

/-- A read of a register right after a write of it answers what the register keeps of the data. -/
theorem exec_rd_after_wr (r : Reg) (h : r ≠ .cmd) (s : State) (v kept : Word) (hkept : readReg (writeReg s r v) r = kept) :
    ∃ t, exec (.wr .word (regOffset r) v) s = .next t ∧
      exec (.rd .word (regOffset r)) t = .next { t with response := .read kept } := by
  refine ⟨_, exec_wr_regOffset r h v s, ?_⟩
  rw [exec_rd_regOffset, readReg_respond, hkept]

theorem readReg_writeReg_fb (s : State) (k : Fin 9) (v : Word) : readReg (writeReg s (.fb k) v) (.fb k) = v &&& 0xFF := by
  have hmask := setWidth_setWidth_eq_mask v 8 (by decide)
  simpa [readReg, writeReg] using hmask

theorem readReg_writeReg_ctrl (s : State) (v : Word) : readReg (writeReg s .ctrl v) .ctrl = v &&& 0x1 := by
  have hbit : BitVec.ofBool (v.getLsbD 0) = v.setWidth 1 := by ext i hi; simp [Nat.lt_one_iff.mp hi]
  rw [readReg, writeReg, hbit]
  exact setWidth_setWidth_eq_mask v 1 (by decide)

theorem readReg_writeReg_calIdx (s : State) (v : Word) : readReg (writeReg s .calIdx v) .calIdx = v &&& 0x3FF :=
  setWidth_setWidth_eq_mask v 10 (by decide)

/-- The aligned offsets up to 0x20 are those of the frame bytes (10_state.md R22). -/
theorem frame_offset (off : Offset) (ha : off.toNat % 4 = 0) (h : off.toNat ≤ 0x20) : ∃ k, off = regOffset (.fb k) := by
  refine ⟨⟨off.toNat / 4, by omega⟩, BitVec.eq_of_toNat_eq ?_⟩
  simp only [regOffset, BitVec.toNat_ofNat]
  omega

/-- Settles O17: one read law for each writable register. -/
theorem readAfterWrite : Obligations.ReadAfterWrite := by
  intro s off v ha hoff
  by_cases hframe : off.toNat ≤ 0x20
  · obtain ⟨k, rfl⟩ := frame_offset off ha hframe
    simp only [if_pos hframe]
    exact exec_rd_after_wr (.fb k) Reg.noConfusion s v _ (readReg_writeReg_fb s k v)
  · have hnamed := hoff.resolve_left hframe
    simp only [List.mem_cons, List.not_mem_nil, or_false] at hnamed
    rcases hnamed with rfl | rfl | rfl | rfl
    · exact exec_rd_after_wr .ctrl Reg.noConfusion s v _ (readReg_writeReg_ctrl s v)
    · exact exec_rd_after_wr .temp Reg.noConfusion s v _ rfl
    · exact exec_rd_after_wr .calIdx Reg.noConfusion s v _ (readReg_writeReg_calIdx s v)
    · exact exec_rd_after_wr .calData Reg.noConfusion s v _ (calRead_calWrite_same_keptWord s.cal s.calIdx v)

end Sys2Proof.Machine
end

section
/-! PROOF. Who writes what: every instruction acts on the block in one of four ways, and each way can change only some registers. -/

namespace Sys2Proof.Machine

/-- The four ways in which an instruction `i` acts on the state `s`, by the state it leaves. -/
inductive Action (i : Instr) (s : State) : State → Prop where
  /-- A command, by its constructor or by the write of its word to CMD. -/
  | command (c : Command) (hi : Performs i c) : Action i s (effect c.toInstr s)
  /-- The write of an ILLEGAL word to CMD. -/
  | illegal (w : Word) (hi : i = .wr .word 0x24 w) : Action i s (illegalCmd s)
  /-- An accepted write of a register other than CMD. -/
  | write (r : Reg) (v : Word) (hr : r ≠ .cmd) (hi : i = .wr .word (regOffset r) v) :
      Action i s (respond .written (writeReg s r v))
  /-- An access that only the bus answers: a read, a write of a reserved offset, a bus error. -/
  | answer (a : BusResponse) : Action i s (respond a s)

/-- A write of CMD acts as the command of its word, or as an illegal one. -/
theorem action_cmd_write (w : Word) (s : State) : Action (.wr .word 0x24 w) s (performCmd w s) := by
  rcases performCmd_cases w s with ⟨c, hw, h⟩ | ⟨-, h⟩
  · rw [h]
    exact .command c (.inr (decodeCmd_ok w c hw ▸ rfl))
  · rw [h]
    exact .illegal w rfl

/-- An accepted write acts as a write of CMD, of another register, or of a reserved offset. -/
theorem action_write (off : Offset) (ha : off.toNat % 4 = 0) (v : Word) (s : State) :
    Action (.wr .word off v) s (writeWord off v s) := by
  have hoff := aligned_reserved_or_regOffset off ha
  rcases writeWord_cases off v s with ⟨hcmd, h⟩ | ⟨hne, h⟩
  · rw [h]
    rw [hcmd] at hoff
    obtain rfl : off = 0x24 := hoff.resolve_left Reg.noConfusion
    exact action_cmd_write v s
  · rw [h]
    rcases hoff with hres | hoff
    · rw [hres]
      exact .answer .written
    · exact .write (regAt off) v hne (congrArg (Instr.wr .word · v) hoff)

/-- Every instruction acts in one of the four ways. -/
theorem action_effect (i : Instr) (s : State) : Action i s (effect i s) := by
  cases i with
  | build => exact .command .build (.inl rfl)
  | check => exact .command .check (.inl rfl)
  | thermA => exact .command .thermA (.inl rfl)
  | thermB => exact .command .thermB (.inl rfl)
  | decode => exact .command .decode (.inl rfl)
  | corr => exact .command .corr (.inl rfl)
  | rd width off =>
    rw [effect]
    split
    · exact .answer _
    · exact .answer _
  | wr width off v =>
    rw [effect]
    split
    · next h =>
      obtain ⟨rfl, ha⟩ := (accepted_iff width off).mp h
      exact action_write off ha v s
    · exact .answer _

/-- The inversion of `exec` for claims about who writes what. -/
theorem action_of_exec {i : Instr} {s t : State} (h : exec i s = .next t) : Action i s t :=
  (exec_next_iff i s t).mp h ▸ action_effect i s

/-- An instruction that performs one of two commands. -/
theorem performs_or {i : Instr} {c a b : Command} (hi : Performs i c) (hc : c = a ∨ c = b) : Performs i a ∨ Performs i b := by
  rcases hc with rfl | rfl
  · exact .inl hi
  · exact .inr hi

/-- The flags that a command can change, but for ERR, which every command writes (60_exceptions.md R180). -/
theorem command_flags (c : Command) (s : State) :
    ((effect c.toInstr s).valid ≠ s.valid → c = .check) ∧
    ((effect c.toInstr s).tvalid ≠ s.tvalid → c = .thermA ∨ c = .thermB) := by
  cases c with
  | build => simp [Command.toInstr, effect, buildFrame]
  | check => simp [Command.toInstr, effect, checkFrame]
  | thermA => simp [Command.toInstr, effect, convertTemp_eq]
  | thermB => simp [Command.toInstr, effect, convertTemp_eq]
  | decode => simp [Command.toInstr, effect, decodeResponse]
  | corr => simp [Command.toInstr, effect, correct]

/-- The flag that a register write can change: TVALID, which a write of TEMP sets. -/
theorem writeReg_flags (s : State) (r : Reg) (v : Word) :
    (writeReg s r v).valid = s.valid ∧ (writeReg s r v).err = s.err ∧
    ((writeReg s r v).tvalid ≠ s.tvalid → r = .temp ∧ (writeReg s r v).tvalid = true) := by
  cases r <;> simp [writeReg]

/-- Settles O42: a changed flag rules out every way of acting on the block but those the statement names. -/
theorem flagWriters : Obligations.FlagWriters := by
  intro s t i ht
  cases action_of_exec ht with
  | command c hi =>
    obtain ⟨hvalid, htvalid⟩ := command_flags c s
    have herr : IsCommand i := hi.imp (fun h => ⟨c, h⟩) (fun h => ⟨_, h⟩)
    exact ⟨fun d => hvalid d ▸ hi, fun d => (performs_or hi (htvalid d)).imp_right .inl, fun _ => herr⟩
  | illegal w hi => exact ⟨fun d => absurd rfl d, fun d => absurd rfl d, fun _ => .inr ⟨w, hi⟩⟩
  | write r v _ hi =>
    obtain ⟨hvalid, herr, htvalid⟩ := writeReg_flags s r v
    refine ⟨fun d => absurd hvalid d, fun d => ?_, fun d => absurd herr d⟩
    obtain ⟨rfl, hset⟩ := htvalid d
    exact .inr (.inr ⟨v, hi, hset⟩)
  | answer a => exact ⟨fun d => absurd rfl d, fun d => absurd rfl d, fun d => absurd rfl d⟩

/-- The registers that a command can change. -/
theorem command_registers (c : Command) (s : State) :
    ((effect c.toInstr s).fb ≠ s.fb → c = .build) ∧
    ((effect c.toInstr s).cksum ≠ s.cksum → c = .build ∨ c = .check) ∧
    ((effect c.toInstr s).tadc ≠ s.tadc → c = .thermA ∨ c = .thermB) ∧
    ((effect c.toInstr s).temp ≠ s.temp → c = .thermA ∨ c = .thermB) ∧
    (((effect c.toInstr s).mag, (effect c.toInstr s).res, (effect c.toInstr s).probe, (effect c.toInstr s).gas,
      (effect c.toInstr s).unit) ≠ (s.mag, s.res, s.probe, s.gas, s.unit) → c = .decode) ∧
    ((effect c.toInstr s).conc ≠ s.conc → c = .corr) ∧
    (effect c.toInstr s).tcEn = s.tcEn ∧ (effect c.toInstr s).calIdx = s.calIdx ∧ (effect c.toInstr s).cal = s.cal := by
  cases c with
  | build => simp [Command.toInstr, effect, buildFrame]
  | check => simp [Command.toInstr, effect, checkFrame]
  | thermA => simp [Command.toInstr, effect, convertTemp_eq]
  | thermB => simp [Command.toInstr, effect, convertTemp_eq]
  | decode => simp [Command.toInstr, effect, decodeResponse]
  | corr => simp [Command.toInstr, effect, correct]

/-- The registers that a register write can change: the one written, if the host can write it. -/
theorem writeReg_registers (s : State) (r : Reg) (v : Word) :
    ((writeReg s r v).fb ≠ s.fb → ∃ k, r = .fb k) ∧ ((writeReg s r v).tcEn ≠ s.tcEn → r = .ctrl) ∧
    (writeReg s r v).cksum = s.cksum ∧ (writeReg s r v).tadc = s.tadc ∧ ((writeReg s r v).temp ≠ s.temp → r = .temp) ∧
    ((writeReg s r v).mag, (writeReg s r v).res, (writeReg s r v).probe, (writeReg s r v).gas, (writeReg s r v).unit) =
      (s.mag, s.res, s.probe, s.gas, s.unit) ∧
    (writeReg s r v).conc = s.conc ∧ ((writeReg s r v).calIdx ≠ s.calIdx → r = .calIdx) ∧
    ((writeReg s r v).cal ≠ s.cal → r = .calData) := by
  cases r <;> simp [writeReg]

/-- Settles O43: a changed register rules out every way of acting on the block but those the statement names. -/
theorem registerWriters : Obligations.RegisterWriters := by
  intro s t i ht
  cases action_of_exec ht with
  | command c hi =>
    obtain ⟨hfb, hcksum, htadc, htemp, hdecode, hconc, htcEn, hcalIdx, hcal⟩ := command_registers c s
    exact ⟨fun d => .inl (hfb d ▸ hi), fun d => absurd htcEn d, fun d => performs_or hi (hcksum d),
      fun d => performs_or hi (htadc d), fun d => (performs_or hi (htemp d)).imp_right .inl, fun d => hdecode d ▸ hi,
      fun d => hconc d ▸ hi, fun d => absurd hcalIdx d, fun d => absurd hcal d⟩
  | write r v _ hi =>
    obtain ⟨hfb, htcEn, hcksum, htadc, htemp, hdecode, hconc, hcalIdx, hcal⟩ := writeReg_registers s r v
    have writes : ∀ r', r = r' → i = .wr .word (regOffset r') v := fun _ h => h ▸ hi
    refine ⟨fun d => ?_, fun d => ⟨v, writes .ctrl (htcEn d)⟩, fun d => absurd hcksum d, fun d => absurd htadc d,
      fun d => .inr (.inr ⟨v, writes .temp (htemp d)⟩), fun d => absurd hdecode d, fun d => absurd hconc d,
      fun d => ⟨v, writes .calIdx (hcalIdx d)⟩, fun d => ⟨v, writes .calData (hcal d)⟩⟩
    obtain ⟨k, rfl⟩ := hfb d
    exact .inr ⟨k, v, hi⟩
  | illegal w hi => simp [illegalCmd]
  | answer a => simp

end Sys2Proof.Machine
end

section
/-! PROOF. Bus accesses as instructions: which accesses decode and to what, and the decoder and the encoder undoing each other. -/

namespace Sys2Proof.Machine

/-! ### Well-formed instructions -/

/-- The legal CMD words are the words of the six commands (30_encoding.md R82). -/
theorem mem_legalCmdWords_iff (w : Word) : w ∈ legalCmdWords ↔ ∃ c, decodeCmd w = .ok c := by
  constructor
  · intro h
    simp only [legalCmdWords, List.mem_cons, List.not_mem_nil, or_false] at h
    rcases h with rfl | rfl | rfl | rfl | rfl | rfl
    · exact ⟨_, decodeCmd_encodeCmd .build⟩
    · exact ⟨_, decodeCmd_encodeCmd .check⟩
    · exact ⟨_, decodeCmd_encodeCmd .thermA⟩
    · exact ⟨_, decodeCmd_encodeCmd .thermB⟩
    · exact ⟨_, decodeCmd_encodeCmd .decode⟩
    · exact ⟨_, decodeCmd_encodeCmd .corr⟩
  · rintro ⟨c, h⟩
    rw [decodeCmd_ok w c h]
    cases c <;> decide

@[simp] theorem wf_toInstr (c : Command) : c.toInstr.wf = true := by cases c <;> rfl

/-- A write is well-formed unless it spells a command. -/
theorem wf_wr_iff (width : Width) (off : Offset) (v : Word) :
    (Instr.wr width off v).wf = true ↔ ¬ (width = .word ∧ off = cmdOffset ∧ ∃ c, decodeCmd v = .ok c) := by
  rw [← mem_legalCmdWords_iff]
  simp [Instr.wf, imp_iff_not_or, or_assoc]

/-- What a bus write decodes to: a command, if the write spells one, or itself as a well-formed WR. -/
theorem decodeWrite_cases (width : Width) (off : Offset) (v : Word) :
    (∃ c, width = .word ∧ off = cmdOffset ∧ v = encodeCmd c ∧ decodeWrite width off v = c.toInstr) ∨
      ((Instr.wr width off v).wf = true ∧ decodeWrite width off v = .wr width off v) := by
  rw [wf_wr_iff]
  by_cases hcmd : width = .word ∧ off = cmdOffset
  · obtain ⟨rfl, rfl⟩ := hcmd
    cases hv : decodeCmd v with
    | ok c => exact .inl ⟨c, rfl, rfl, decodeCmd_ok v c hv, by simp [decodeWrite, hv]⟩
    | error r => exact .inr ⟨by simp, by simp [decodeWrite, hv]⟩
  · exact .inr ⟨fun ⟨hwidth, hoff, _⟩ => hcmd ⟨hwidth, hoff⟩, if_neg hcmd⟩

/-- A well-formed WR decodes as itself. -/
theorem decodeWrite_of_wf (width : Width) (off : Offset) (v : Word) (h : (Instr.wr width off v).wf = true) :
    decodeWrite width off v = .wr width off v := by
  rcases decodeWrite_cases width off v with ⟨c, rfl, rfl, rfl, -⟩ | ⟨-, hw⟩
  · exact absurd ⟨rfl, rfl, c, decodeCmd_encodeCmd c⟩ ((wf_wr_iff _ _ _).mp h)
  · exact hw

/-- The write of a command's word to CMD decodes as the command. -/
theorem decodeWrite_encodeCmd (c : Command) : decodeWrite .word cmdOffset (encodeCmd c) = c.toInstr := by
  simp [decodeWrite, decodeCmd_encodeCmd]

/-! ### The window -/

/-- The addresses of the window are those at an offset from its base (20_memory.md R51). -/
theorem exists_offset_of_window (base a : Nat) (h : base ≤ a ∧ a < base + 256) : ∃ off : Offset, a = base + off.toNat :=
  ⟨BitVec.ofNat 8 (a - base), by rw [BitVec.toNat_ofNat]; omega⟩

/-- An access at an offset decodes by its direction (30_encoding.md R85). -/
theorem decodeAccess_offset (base : Nat) (write : Bool) (width : Width) (off : Offset) (v : Word) :
    decodeAccess base ⟨write, width, base + off.toNat, v⟩ = .ok (if write then decodeWrite width off v else .rd width off) := by
  rw [decodeAccess, if_pos (Laws.EncodeAddress.offset_in_window base off)]
  cases write <;> simp

theorem decodeAccess_outside (base : Nat) (x : BusAccess) (h : ¬ (base ≤ x.addr ∧ x.addr < base + 256)) :
    decodeAccess base x = .error .outsideWindow := if_neg h

/-- The accesses that decode are those in the window. -/
theorem decodeAccess_isOk_iff (base : Nat) (x : BusAccess) :
    (∃ i, decodeAccess base x = .ok i) ↔ base ≤ x.addr ∧ x.addr < base + 256 := by
  obtain ⟨write, width, a, v⟩ := x
  constructor
  · rintro ⟨i, hi⟩
    by_contra hout
    rw [decodeAccess_outside _ _ hout] at hi
    cases hi
  · intro hin
    obtain ⟨off, rfl⟩ := exists_offset_of_window base a hin
    exact ⟨_, decodeAccess_offset base write width off v⟩

/-! ### The encoder -/

theorem encode_toInstr (base : Nat) (c : Command) : encode base c.toInstr = encodeCmdWrite base c := by cases c <;> rfl

/-- A bus write is the encoding of the well-formed instruction it decodes to. -/
theorem encode_decodeWrite (base : Nat) (width : Width) (off : Offset) (v : Word) :
    (decodeWrite width off v).wf = true ∧ encode base (decodeWrite width off v) = ⟨true, width, base + off.toNat, v⟩ := by
  rcases decodeWrite_cases width off v with ⟨c, rfl, rfl, rfl, hi⟩ | ⟨hwf, hi⟩
  · rw [hi]
    exact ⟨wf_toInstr c, encode_toInstr base c⟩
  · rw [hi]
    exact ⟨hwf, rfl⟩

/-- A command's write decodes as the command, wherever the window stands. -/
theorem decodeAccess_encodeCmdWrite (base : Nat) (c : Command) :
    decodeAccess base (encodeCmdWrite base c) = .ok c.toInstr := by
  rw [encodeCmdWrite, decodeAccess_offset, if_pos rfl, decodeWrite_encodeCmd]

/-- A well-formed instruction is what its own bus access decodes to. -/
theorem decodeAccess_encode (base : Nat) (i : Instr) (h : i.wf = true) : decodeAccess base (encode base i) = .ok i := by
  cases i with
  | build => exact decodeAccess_encodeCmdWrite base .build
  | check => exact decodeAccess_encodeCmdWrite base .check
  | thermA => exact decodeAccess_encodeCmdWrite base .thermA
  | thermB => exact decodeAccess_encodeCmdWrite base .thermB
  | decode => exact decodeAccess_encodeCmdWrite base .decode
  | corr => exact decodeAccess_encodeCmdWrite base .corr
  | rd width off => exact decodeAccess_offset base false width off 0
  | wr width off v => rw [encode, decodeAccess_offset, if_pos rfl, decodeWrite_of_wf width off v h]

/-- Settles O7: an access in the window is one at an offset, and its two directions are encoded back. -/
theorem encodeOfDecode : Obligations.EncodeOfDecode := by
  refine ⟨fun base x i hi => ?_, decodeAccess_isOk_iff⟩
  have hin := (decodeAccess_isOk_iff base x).mp ⟨i, hi⟩
  obtain ⟨write, width, a, v⟩ := x
  obtain ⟨off, rfl⟩ := exists_offset_of_window base a hin
  rw [decodeAccess_offset] at hi
  obtain rfl := Except.ok.inj hi
  cases write with
  | true => exact encode_decodeWrite base width off v
  | false => exact ⟨rfl, rfl⟩

end Sys2Proof.Machine
end

section
/-! PROOF. The effect of each kind of access: reads field by field, plain writes and their frame, writes of CMD, and bus errors. -/

namespace Sys2Proof.Machine

/-! ### Writes of CMD -/

/-- A legal word written to CMD has the effect of its command (10_state.md R23). -/
theorem performCmd_of_ok {w : Word} {c : Command} (h : decodeCmd w = .ok c) (s : State) : performCmd w s = effect c.toInstr s := by
  rw [performCmd, h]
  cases c <;> rfl

/-- An ILLEGAL word written to CMD only reports its outcome (60_exceptions.md R183). -/
theorem performCmd_of_error {w : Word} {r : DecodeReject} (h : decodeCmd w = .error r) (s : State) :
    performCmd w s = illegalCmd s := by
  rw [performCmd, h]

theorem writeWord_cmd (off : Offset) (h : regAt off = .cmd) (v : Word) (s : State) : writeWord off v s = performCmd v s := by
  rw [writeWord, h]

theorem writeWord_of_ne_cmd (off : Offset) (h : regAt off ≠ .cmd) (v : Word) (s : State) :
    writeWord off v s = respond .written (writeReg s (regAt off) v) := by
  rcases writeWord_cases off v s with ⟨hcmd, -⟩ | ⟨-, hw⟩
  · exact absurd hcmd h
  · exact hw

/-- A 32-bit write of CMD performs the word. -/
theorem exec_wr_cmd (w : Word) (s : State) : exec (.wr .word 0x24 w) s = .next (performCmd w s) := by
  rw [exec_eq_effect, effect, if_pos (by decide), writeWord_cmd _ rfl]

/-- Settles O18: the write performs the word, and performing a command's word is the command's effect. -/
theorem cmdWritePerformsTheCommand : Obligations.CmdWritePerformsTheCommand := by
  intro s w c hw
  rw [exec_wr_cmd, performCmd_of_ok hw, exec_eq_effect]

/-! ### Bus errors -/

/-- Settles O14: such an access is not accepted, and both directions then answer the bus error. -/
theorem busErrorChangesNothing : Obligations.BusErrorChangesNothing := by
  intro s width off v h
  have hno : ¬ accepted width off = true := fun hacc =>
    have ⟨hwidth, halign⟩ := (accepted_iff width off).mp hacc
    h.elim (· hwidth) (· halign)
  simp only [exec_eq_effect, effect, if_neg hno]
  exact ⟨rfl, rfl⟩

/-! ### Reads -/

/-- The offsets from 0x50 on are reserved (10_state.md R34). -/
theorem regAt_reserved (off : Offset) (h : 0x50 ≤ off.toNat) : regAt off = .reserved := by
  revert off
  decide

/-- The offset of frame byte `k` is the one with the number `4 * k` (10_state.md R22). -/
theorem eq_regOffset_fb (off : Offset) (k : Fin 9) (h : off.toNat = 4 * k) : off = regOffset (.fb k) := by
  apply BitVec.eq_of_toNat_eq
  rw [regOffset, BitVec.toNat_ofNat]
  omega

/-- Settles O13: the read answers `readReg` of the register at the offset, which is read off clause by clause. -/
theorem readReturnsTheRegister : Obligations.ReadReturnsTheRegister := by
  intro s off ha
  refine ⟨readReg s (regAt off), exec_rd_aligned off ha s, ?fb, ?cmd, ?status, ?ctrl, ?cksum, ?tadc, ?temp, ?rawconc, ?gas, ?conc,
    ?calIdx, ?calData, ?reserved⟩
  case fb =>
    intro k hk
    rw [eq_regOffset_fb off k hk, regAt_regOffset]
    exact BitVec.toNat_setWidth_of_le (by decide)
  case reserved =>
    intro h
    rw [regAt_reserved off h, readReg]
  all_goals rintro rfl
  case cmd | temp | conc | calData => rfl
  case ctrl => exact (BitVec.toNat_setWidth_of_le (by decide)).trans (BitVec.toNat_ofBool s.tcEn)
  case cksum | tadc | calIdx => exact BitVec.toNat_setWidth_of_le (by decide)
  case status => exact (readReg_status_toNat s).trans (by omega)
  case rawconc => exact (readReg_rawconc_toNat s).trans (by omega)
  case gas => exact (readReg_gas_toNat s).trans (by omega)

/-! ### Plain writes -/

/-- The low `n` bits of a word, by its number. -/
theorem ofNat_toNat_mod_eq_setWidth (v : Word) (n : Nat) : BitVec.ofNat n (v.toNat % 2 ^ n) = v.setWidth n := by
  apply BitVec.eq_of_toNat_eq
  simp

theorem getLsbD_zero_eq_mod_two (v : Word) : v.getLsbD 0 = (v.toNat % 2 == 1) := Nat.testBit_zero v.toNat

/-- An accepted write at an aligned offset where a register ignores writes only completes (10_state.md R34). -/
theorem exec_wr_ignored (off : Offset) (ha : off.toNat % 4 = 0) (v : Word) (s : State) (hcmd : regAt off ≠ .cmd)
    (hkeep : writeReg s (regAt off) v = s) : exec (.wr .word off v) s = .next { s with response := .written } := by
  rw [exec_eq_effect, effect, if_pos ((accepted_iff _ _).mpr ⟨rfl, ha⟩), writeWord_of_ne_cmd off hcmd, hkeep, respond]

/-- Settles O15: the write is `writeReg` of the register at the offset. -/
theorem writeEffects : Obligations.WriteEffects := by
  intro s v
  refine ⟨fun k => ?fb, ?ctrl, exec_wr_regOffset .temp Reg.noConfusion v s, ?calIdx, fun off ha hoff => ?ignored⟩
  case fb =>
    have hlow : BitVec.ofNat 8 (v.toNat % 256) = v.setWidth 8 := ofNat_toNat_mod_eq_setWidth v 8
    rw [hlow]
    exact exec_wr_regOffset (.fb k) Reg.noConfusion v s
  case ctrl =>
    rw [← getLsbD_zero_eq_mod_two]
    exact exec_wr_regOffset .ctrl Reg.noConfusion v s
  case calIdx =>
    have hlow : BitVec.ofNat 10 (v.toNat % 1024) = v.setWidth 10 := ofNat_toNat_mod_eq_setWidth v 10
    rw [hlow]
    exact exec_wr_regOffset .calIdx Reg.noConfusion v s
  case ignored =>
    rcases hoff with hmem | hres
    · simp only [List.mem_cons, List.not_mem_nil, or_false] at hmem
      rcases hmem with rfl | rfl | rfl | rfl | rfl | rfl <;> exact exec_wr_ignored _ ha v s (by decide) rfl
    · have hreg := regAt_reserved off hres
      exact exec_wr_ignored off ha v s (by rw [hreg]; exact Reg.noConfusion) (by rw [hreg]; rfl)

end Sys2Proof.Machine
end

section
/-! PROOF. A step serves the next event and nothing else, so a host's sequence of accesses runs in its order. -/

namespace Sys2Proof.Machine

/-! ### One step -/

/-- The state `s` with the events `p` still to come. -/
def withPending (p : List HostEvent) (s : State) : State := { s with pending := p }

@[simp] theorem withPending_cfg (p : List HostEvent) (s : State) : (withPending p s).cfg = s.cfg := rfl

@[simp] theorem withPending_pending (p : List HostEvent) (s : State) : (withPending p s).pending = p := rfl

@[simp] theorem withPending_withPending (p q : List HostEvent) (s : State) : withPending p (withPending q s) = withPending p s :=
  rfl

theorem withPending_self (s : State) : withPending s.pending s = s := rfl

/-- A step whose next event is an access serves it, with the access taken from the list. -/
theorem step_access (s : State) (x : BusAccess) (rest : List HostEvent) (h : s.pending = .access x :: rest) :
    step s = serveAccess x (withPending rest s) := by
  rw [step, h]
  rfl

theorem serveAccess_of_ok {x : BusAccess} {s : State} {i : Instr} (h : decodeAccess s.cfg.base x = .ok i) :
    serveAccess x s = exec i s := by
  rw [serveAccess, h]

theorem serveAccess_of_error {x : BusAccess} {s : State} {r : DecodeReject} (h : decodeAccess s.cfg.base x = .error r) :
    serveAccess x s = .next s := by
  rw [serveAccess, h]

/-- Settles O10: the step serves the access, and serving it runs what it decodes to. -/
theorem stepRunsTheDecodedAccess : Obligations.StepRunsTheDecodedAccess := by
  intro s x rest i hp hi
  rw [step_access s x rest hp]
  exact serveAccess_of_ok hi

/-- Settles O11: an access outside the window does not decode, and with no event there is nothing to serve. -/
theorem nothingElseReachesTheBlock : Obligations.NothingElseReachesTheBlock := by
  refine ⟨fun s x rest hp hout => ?_, fun s hp => by rw [step, hp]⟩
  rw [step_access s x rest hp]
  exact serveAccess_of_error (decodeAccess_outside s.cfg.base x (by omega))

/-! ### No instruction depends on the events still to come -/

theorem command_withPending (c : Command) (p : List HostEvent) (s : State) :
    effect c.toInstr (withPending p s) = withPending p (effect c.toInstr s) := by
  cases c with
  | thermA | thermB => simp only [Command.toInstr, effect, convertTemp_eq, withPending]
  | _ => rfl

theorem performCmd_withPending (w : Word) (p : List HostEvent) (s : State) :
    performCmd w (withPending p s) = withPending p (performCmd w s) := by
  cases hw : decodeCmd w with
  | ok c => rw [performCmd_of_ok hw, performCmd_of_ok hw, command_withPending]
  | error r => rw [performCmd_of_error hw, performCmd_of_error hw]; rfl

theorem readReg_withPending (p : List HostEvent) (s : State) (r : Reg) : readReg (withPending p s) r = readReg s r := by
  cases r <;> rfl

theorem writeReg_withPending (p : List HostEvent) (s : State) (r : Reg) (v : Word) :
    writeReg (withPending p s) r v = withPending p (writeReg s r v) := by
  cases r <;> rfl

theorem writeWord_withPending (off : Offset) (v : Word) (p : List HostEvent) (s : State) :
    writeWord off v (withPending p s) = withPending p (writeWord off v s) := by
  by_cases h : regAt off = .cmd
  · rw [writeWord_cmd off h, writeWord_cmd off h, performCmd_withPending]
  · rw [writeWord_of_ne_cmd off h, writeWord_of_ne_cmd off h, writeReg_withPending]
    rfl

theorem effect_withPending (i : Instr) (p : List HostEvent) (s : State) :
    effect i (withPending p s) = withPending p (effect i s) := by
  cases i with
  | build => exact command_withPending .build p s
  | check => exact command_withPending .check p s
  | thermA => exact command_withPending .thermA p s
  | thermB => exact command_withPending .thermB p s
  | decode => exact command_withPending .decode p s
  | corr => exact command_withPending .corr p s
  | rd width off =>
    simp only [effect, readReg_withPending]
    split <;> rfl
  | wr width off v =>
    simp only [effect, writeWord_withPending]
    split <;> rfl

/-! ### A sequence of accesses -/

/-- A step whose next event is the access of a well-formed instruction takes it and has the instruction's effect. -/
theorem step_encode (i : Instr) (hwf : i.wf = true) (s : State) (rest : List HostEvent)
    (hp : s.pending = .access (encode s.cfg.base i) :: rest) : step s = .next (withPending rest (effect i s)) := by
  rw [stepRunsTheDecodedAccess s _ rest i hp (decodeAccess_encode _ i hwf), exec_eq_effect]
  exact congrArg Host.Outcome.next (effect_withPending i rest s)

/-- A run of one step more goes on from the state that the first step leaves. -/
theorem run_succ_of_step (M : Host.Core) {s t : M.State} (h : M.step s = .next t) (n : Nat) : M.run (n + 1) s = M.run n t := by
  rw [Host.Core.run, h]

theorem execAll_cons (i : Instr) (is : List Instr) (s : State) : execAll (i :: is) s = execAll is (effect i s) := by
  rw [execAll, exec_eq_effect]

/-- Settles O12, by induction on the list: a step takes one access and keeps the others, and BASE with them. -/
theorem accessesRunInOrder : Obligations.AccessesRunInOrder := by
  intro is
  induction is with
  | nil =>
    intro s _ hp
    exact congrArg Host.Outcome.next ((withPending_self s).symm.trans (congrArg (withPending · s) hp))
  | cons i rest ih =>
    intro s hwf hp
    obtain ⟨hi, hrest⟩ := List.forall_mem_cons.mp hwf
    obtain ⟨hcfg, -⟩ := effect_keeps_outside i s
    let t := withPending (rest.map fun j => .access (encode s.cfg.base j)) (effect i s)
    have hpt : t.pending = rest.map fun j => .access (encode t.cfg.base j) := by simp [t, hcfg]
    have hstep := run_succ_of_step core (step_encode i hi s _ hp) rest.length
    have hexec : execAll rest (withPending [] t) = execAll (i :: rest) (withPending [] s) := by
      rw [execAll_cons, effect_withPending, withPending_withPending]
    exact hstep.trans ((ih t hrest hpt).trans hexec)

end Sys2Proof.Machine
end

section
/-! PROOF. Every instruction done twice leaves the state it left the first time. -/

namespace Sys2Proof.Machine

@[simp] theorem respond_respond (a b : BusResponse) (s : State) : respond a (respond b s) = respond a s := rfl

/-! ### BUILD -/

/-- The checksum takes no part of byte 8. -/
@[simp] theorem cks_set_eight (f : Frame) (b : Byte) : cks (f.set 8 b) = cks f := by simp [cks, frameSum]

@[simp] theorem builtFrame_zero (f : Frame) : (builtFrame f)[0] = 0xFF := by simp [builtFrame]

@[simp] theorem builtFrame_one (f : Frame) : (builtFrame f)[1] = 0x01 := by simp [builtFrame]

@[simp] theorem builtFrame_eight (f : Frame) : (builtFrame f)[8] = cks (builtFrame f) := by simp [builtFrame]

/-- A frame with sync, device class and checksum in place is left as it is. -/
theorem builtFrame_of_complete (f : Frame) (hsync : f[0] = 0xFF) (hclass : f[1] = 0x01) (hcks : f[8] = cks f) :
    builtFrame f = f := by
  rw [builtFrame, ← hsync, Vector.set_getElem_self, ← hclass, Vector.set_getElem_self, ← hcks, Vector.set_getElem_self]

@[simp] theorem builtFrame_builtFrame (f : Frame) : builtFrame (builtFrame f) = builtFrame f :=
  builtFrame_of_complete _ (builtFrame_zero f) (builtFrame_one f) (builtFrame_eight f)

/-! ### Commands and writes -/

/-- A command done again finds the operands it found: it writes none of them, and BUILD completes a frame once. -/
theorem command_idempotent (c : Command) (s : State) : effect c.toInstr (effect c.toInstr s) = effect c.toInstr s := by
  cases c with
  | build => simp [Command.toInstr, effect, buildFrame, complete, respond, setErr]
  | thermA | thermB => simp only [Command.toInstr, effect, convertTemp_eq]
  | check | decode | corr => rfl

theorem performCmd_idempotent (w : Word) (s : State) : performCmd w (performCmd w s) = performCmd w s := by
  cases hw : decodeCmd w with
  | ok c => rw [performCmd_of_ok hw, performCmd_of_ok hw, command_idempotent]
  | error r => rw [performCmd_of_error hw, performCmd_of_error hw]; rfl

theorem setWord_setWord (e : Band) (w : Nat) (v : Word) : (e.setWord w v).setWord w v = e.setWord w v := by
  match w with
  | 0 | 1 | 2 | 3 | 4 | 5 | 6 => rfl
  | _ + 7 => rfl

theorem setEntry_setEntry (t : CalTable) (g : Fin 11) (b : Fin 8) (e e' : Band) :
    (t.setEntry g b e).setEntry g b e' = t.setEntry g b e' := by
  simp [CalTable.setEntry]

/-- Writing a table word twice is writing it once (10_state.md R37). -/
theorem calWrite_calWrite (t : CalTable) (i : BitVec 10) (v : Word) : calWrite (calWrite t i v) i v = calWrite t i v := by
  unfold calWrite
  cases calSlot (calGas i) with
  | none => rfl
  | some g => simp only [entry_setEntry_same, setWord_setWord, setEntry_setEntry]

theorem writeReg_respond (a : BusResponse) (s : State) (r : Reg) (v : Word) :
    writeReg (respond a s) r v = respond a (writeReg s r v) := by
  cases r <;> rfl

theorem writeReg_writeReg (s : State) (r : Reg) (v : Word) : writeReg (writeReg s r v) r v = writeReg s r v := by
  cases r with
  | fb k => simp [writeReg]
  | calData => simp only [writeReg, calWrite_calWrite]
  | _ => rfl

theorem writeWord_idempotent (off : Offset) (v : Word) (s : State) : writeWord off v (writeWord off v s) = writeWord off v s := by
  by_cases h : regAt off = .cmd
  · rw [writeWord_cmd off h, writeWord_cmd off h, performCmd_idempotent]
  · rw [writeWord_of_ne_cmd off h, writeWord_of_ne_cmd off h, writeReg_respond, writeReg_writeReg, respond_respond]

/-- Every instruction is idempotent (20_memory.md R59). -/
theorem effect_idempotent (i : Instr) (s : State) : effect i (effect i s) = effect i s := by
  cases i with
  | build => exact command_idempotent .build s
  | check => exact command_idempotent .check s
  | thermA => exact command_idempotent .thermA s
  | thermB => exact command_idempotent .thermB s
  | decode => exact command_idempotent .decode s
  | corr => exact command_idempotent .corr s
  | rd width off =>
    by_cases h : accepted width off = true
    · simp only [effect, if_pos h, readReg_respond, respond_respond]
    · simp only [effect, if_neg h]
      rfl
  | wr width off v =>
    by_cases h : accepted width off = true
    · simp only [effect, if_pos h, writeWord_idempotent]
    · simp only [effect, if_neg h]
      rfl

/-- Settles O20: `exec` answers the effect, and the effect is idempotent. -/
theorem accessesAreIdempotent : Obligations.AccessesAreIdempotent := by
  intro s t i h
  obtain rfl := (exec_next_iff i s t).mp h
  rw [exec_eq_effect, effect_idempotent]

end Sys2Proof.Machine
end

section
/-! PROOF. The decoders of CMD words and of instructions, settled, and the words of table rows: what they decode to and how a step
runs them. -/

namespace Sys2Proof.Machine

/-- Settles O6: by the constructor of the instruction; a command by its CMD word, an access by its offset. -/
theorem decodeOfEncode : Obligations.DecodeOfEncode := decodeAccess_encode

/-! ### CMD words -/

theorem decodeCmd_ok_iff (w : Word) (c : Command) : decodeCmd w = .ok c ↔ w = encodeCmd c :=
  ⟨decodeCmd_ok w c, fun h => h ▸ decodeCmd_encodeCmd c⟩

/-- The decoder rejects every word but the legal ones. -/
theorem decodeCmd_error_iff (w : Word) : (∃ r, decodeCmd w = .error r) ↔ w ∉ legalCmdWords := by
  rw [mem_legalCmdWords_iff]
  cases decodeCmd w <;> simp

/-- The legal words have RSV = 0, OP from 1 to 5, and S = 0 unless OP is 3; no other word has (30_encoding.md R82, R84). -/
theorem mem_legalCmdWords_iff_fields (w : Word) :
    w ∈ legalCmdWords ↔
      ¬ (w.toNat / 32 ≠ 0 ∨ w.toNat % 16 = 0 ∨ 6 ≤ w.toNat % 16 ∨ (w.toNat / 16 % 2 = 1 ∧ w.toNat % 16 ≠ 3)) := by
  simp only [legalCmdWords, List.mem_cons, List.not_mem_nil, or_false, ← BitVec.toNat_inj, BitVec.reduceToNat]
  omega

/-- Settles O5: a word decodes to a command only as its encoding, and the six encodings are the words with legal fields. -/
theorem cmdWordDecoding : Obligations.CmdWordDecoding := by
  intro w
  constructor
  · intro c
    rw [decodeCmd_ok_iff]
    cases c <;> rfl
  · rw [decodeCmd_error_iff, mem_legalCmdWords_iff_fields, not_not]

/-! ### Table rows -/

/-- A table word is no access at all, or an access at one offset wherever the window stands (log entry 12). -/
theorem tableAccess_cases (nbits w : Nat) :
    (∀ base, tableAccess base nbits w = none) ∨
      ∃ (write : Bool) (width : Width) (off : Offset) (v : Word),
        ∀ base, tableAccess base nbits w = some ⟨write, width, base + off.toNat, v⟩ := by
  unfold tableAccess
  split_ifs with hcmd hword hdir hword hoff
  · exact .inr ⟨true, .word, cmdOffset, BitVec.ofNat 32 w, fun _ => rfl⟩
  · exact .inl fun _ => rfl
  · exact .inr ⟨true, .word, BitVec.ofNat 8 w, BitVec.ofNat 32 (w / 512), fun _ => rfl⟩
  · exact .inl fun _ => rfl
  · exact .inr ⟨false, .word, BitVec.ofNat 8 w, 0, fun base => by rw [BitVec.toNat_ofNat, Nat.mod_eq_of_lt hoff]⟩
  · exact .inl fun _ => rfl

/-- A table word that is an access decodes by the direction of the access. -/
theorem decodeTableWord_of_tableAccess {nbits w : Nat} {write : Bool} {width : Width} {off : Offset} {v : Word}
    (h : tableAccess 0 nbits w = some ⟨write, width, 0 + off.toNat, v⟩) :
    decodeTableWord nbits w = some (if write then decodeWrite width off v else .rd width off) := by
  simp only [decodeTableWord, h, decodeAccess_offset]

/-- The row of a CMD word decodes to the command (30_encoding.md R82). -/
theorem decodeTableWord_encodeCmd (c : Command) : decodeTableWord 32 (encodeCmd c).toNat = some c.toInstr := by
  have h : tableAccess 0 32 (encodeCmd c).toNat = some ⟨true, .word, 0 + cmdOffset.toNat, encodeCmd c⟩ := by
    cases c <;> rfl
  rw [decodeTableWord_of_tableAccess h, if_pos rfl, decodeWrite_encodeCmd]

/-- Settles O8: the command rows by `decodeTableWord_encodeCmd`, the two accesses by their offset and direction. -/
theorem tableWordsDecode : Obligations.TableWordsDecode := by
  refine ⟨decodeTableWord_encodeCmd .build, decodeTableWord_encodeCmd .check, decodeTableWord_encodeCmd .thermA,
    decodeTableWord_encodeCmd .thermB, decodeTableWord_encodeCmd .decode, decodeTableWord_encodeCmd .corr, ?rd, ?wr⟩
  case rd => exact decodeTableWord_of_tableAccess (write := false) (width := .word) (off := 0x28) (v := 0) rfl
  case wr => exact decodeTableWord_of_tableAccess (write := true) (width := .word) (off := 0x38) (v := 0x00140000) rfl

/-- Settles O9: the word is the same access at both bases, and a step runs what the next access decodes to. -/
theorem tableWordIsRun : Obligations.TableWordIsRun := by
  intro s nbits w i hi
  rcases tableAccess_cases nbits w with hnone | ⟨write, width, off, v, haccess⟩
  · simp [decodeTableWord, hnone] at hi
  · rw [decodeTableWord_of_tableAccess (haccess 0)] at hi
    obtain rfl := Option.some.inj hi
    rw [State.withFetchWord, haccess]
    exact stepRunsTheDecodedAccess _ _ s.pending _ rfl (decodeAccess_offset s.cfg.base write width off v)

end Sys2Proof.Machine
end

section
/-! PROOF. The pseudo-instructions as runs of the accesses they expand to (30_encoding.md R87). -/

namespace Sys2Proof.Machine

/-- A sequence that begins with a write of a register other than CMD goes on from the register write. -/
theorem execAll_cons_wr (r : Reg) (h : r ≠ .cmd) (v : Word) (is : List Instr) (s : State) :
    execAll (wrWord (regOffset r) v :: is) s = execAll is (respond .written (writeReg s r v)) := by
  rw [execAll, wrWord, exec_wr_regOffset r h]

/-! ### Loading a frame -/

/-- The frame `g` after the bytes of `f` at the positions `ks` are written into it. -/
def loadBytes (f : Frame) (ks : List (Fin 9)) (g : Frame) : Frame := ks.foldl (fun h (k : Fin 9) => h.set k f[k]) g

theorem getElem_loadBytes (f : Frame) (ks : List (Fin 9)) (g : Frame) (j : Fin 9) :
    (loadBytes f ks g)[j] = if j ∈ ks then f[j] else g[j] := by
  induction ks generalizing g with
  | nil => rfl
  | cons k ks ih =>
    have hcons : loadBytes f (k :: ks) g = loadBytes f ks (g.set k f[k]) := rfl
    rw [hcons, ih]
    by_cases hk : j = k
    · simp [hk]
    · have hval : k.val ≠ j.val := fun h => hk (Fin.ext h.symm)
      simp [hk, Vector.getElem_set_ne _ _ hval]

/-- Writing all nine bytes of a frame leaves that frame. -/
theorem loadBytes_finRange (f g : Frame) : loadBytes f (List.finRange 9) g = f :=
  Vector.ext fun j hj => by simpa using getElem_loadBytes f (List.finRange 9) g ⟨j, hj⟩

/-- The write of byte `k` of a frame leaves it in the frame bytes, and changes nothing else (20_memory.md R55). -/
theorem execAll_cons_wrFrameByte (f : Frame) (k : Fin 9) (is : List Instr) (s : State) :
    execAll (wrFrameByte f k :: is) s = execAll is { s with fb := s.fb.set k f[k], response := .written } := by
  have hbyte : (f[k].setWidth 32).setWidth 8 = f[k] := by simp
  have hwr := execAll_cons_wr (.fb k) Reg.noConfusion (f[k].setWidth 32) is s
  rw [writeReg, hbyte] at hwr
  exact hwr

/-- Writes of bytes of a frame, one at least, load these bytes and change nothing else. -/
theorem execAll_map_wrFrameByte (f : Frame) (k : Fin 9) (ks : List (Fin 9)) (rest : List Instr) (s : State) :
    execAll ((k :: ks).map (wrFrameByte f) ++ rest) s =
      execAll rest { s with fb := loadBytes f (k :: ks) s.fb, response := .written } := by
  induction ks generalizing k s with
  | nil => exact execAll_cons_wrFrameByte f k rest s
  | cons k' ks ih => exact (execAll_cons_wrFrameByte f k _ s).trans (ih k' _)

/-- LDFRAME leaves exactly the nine bytes given. -/
theorem execAll_ldFrame (f : Frame) (s : State) : execAll (ldFrame f) s = .next { s with fb := f, response := .written } := by
  have hrun := execAll_map_wrFrameByte f 0 [1, 2, 3, 4, 5, 6, 7, 8] [] s
  have hall : loadBytes f [0, 1, 2, 3, 4, 5, 6, 7, 8] s.fb = f := loadBytes_finRange f s.fb
  rw [hall] at hrun
  exact hrun

/-! ### A request frame -/

/-- The frame of a request, with any checksum byte. -/
def requestFrame (op p3 p4 p5 p6 p7 sum : Byte) : Frame := #v[0xFF, 0x01, op, p3, p4, p5, p6, p7, sum]

/-- BUILD leaves a request of the bytes 2 to 7 that it finds (40_frame_checksum.md R104). -/
theorem builtFrame_eq_requestFrame (f : Frame) :
    builtFrame f = requestFrame f[2] f[3] f[4] f[5] f[6] f[7] (cks (builtFrame f)) := by
  apply Vector.ext
  intro j hj
  interval_cases j
  · exact builtFrame_zero f
  · exact builtFrame_one f
  iterate 6 · simp [builtFrame, requestFrame]
  · exact builtFrame_eight f

/-- The frame BUILD leaves is valid (40_frame_checksum.md R105). -/
theorem frameValid_buildFrame (s : State) : FrameValid (buildFrame s) :=
  ⟨checkFrame (buildFrame s), rfl, beq_iff_eq.mpr (builtFrame_eight s.fb).symm⟩

/-- LDREQ loads the bytes 2 to 7 of a request, which BUILD then completes. -/
theorem execAll_ldReq (op p3 p4 p5 p6 p7 : Byte) (s : State) :
    ∃ f, execAll (ldReq op p3 p4 p5 p6 p7) s = .next (buildFrame { s with fb := f, response := .written }) ∧
      builtFrame f = requestFrame op p3 p4 p5 p6 p7 (cks (builtFrame f)) := by
  let request := requestFrame op p3 p4 p5 p6 p7 0
  refine ⟨loadBytes request [2, 3, 4, 5, 6, 7] s.fb, execAll_map_wrFrameByte request 2 [3, 4, 5, 6, 7] [.build] s, ?_⟩
  refine (builtFrame_eq_requestFrame _).trans ?_
  congr 1 <;> simp [loadBytes, request, requestFrame]

/-! ### The calibration table -/

/-- CALWR then CALRD of one index reads what the table keeps of the word at that index (10_state.md R37). -/
theorem execAll_calWr_calRd (i v : Word) (s : State) :
    ∃ t, execAll (calWr i v ++ calRd i) s = .next t ∧ t.response = .read (keptWord (i.setWidth 10) v) := by
  have hidx := execAll_cons_wr .calIdx Reg.noConfusion i
  have hdata := execAll_cons_wr .calData Reg.noConfusion v
  refine ⟨_, ((hidx _ s).trans (hdata _ _)).trans ((hidx _ _).trans (execAll_cons _ [] _)), ?_⟩
  exact congrArg BusResponse.read (calRead_calWrite_same_keptWord s.cal (i.setWidth 10) v)

/-- The word kept at an implemented index, from the register write that sets the index. -/
theorem keptWord_setWidth (i v : Word) (hlow : 1 ≤ i.toNat % 1024 / 64) (hhigh : i.toNat % 1024 / 64 ≤ 11) (hword : i.toNat % 8 ≤ 6) :
    keptWord (i.setWidth 10) v = if i.toNat % 8 = 2 then v &&& 0x1F else v := by
  have hidx : (i.setWidth 10).toNat = i.toNat % 1024 := BitVec.toNat_setWidth 10 i
  have hmod : i.toNat % 1024 % 8 = i.toNat % 8 := Nat.mod_mod_of_dvd _ (by decide)
  rw [keptWord, hidx, hmod, if_pos ⟨hlow, hhigh, hword⟩]

/-- Settles O48: each expansion is a run of register writes, and of BUILD or a read after them. -/
theorem pseudoInstructions : Obligations.PseudoInstructions := by
  intro s
  refine ⟨fun f => execAll_ldFrame f s, fun op p3 p4 p5 p6 p7 => ?ldReq, fun i v hlow hhigh hword => ?cal,
    execAll_cons_wr .ctrl Reg.noConfusion 1 [] s, execAll_cons_wr .ctrl Reg.noConfusion 0 [] s⟩
  case ldReq =>
    obtain ⟨f, hrun, hbuilt⟩ := execAll_ldReq op p3 p4 p5 p6 p7 s
    exact ⟨_, hrun, frameValid_buildFrame _, hbuilt⟩
  case cal =>
    rw [← keptWord_setWidth i v hlow hhigh hword]
    exact execAll_calWr_calRd i v s

end Sys2Proof.Machine
end

section
/-! PROOF. The frame checksum: BUILD and CHECK, validity as a sum of eight bytes, what a change of the frame does to that sum, and
that VALID gates no other command. -/

namespace Sys2Proof.Machine

/-! ### The checksum of bytes 1 to 7 -/

theorem cks_toNat (f : Frame) : (cks f).toNat = (0x100 - frameSum f % 256) % 256 := by
  rw [cks, BitVec.toNat_ofNat]
  exact Nat.mod_mod _ 256

/-- The number `frameSum` is, modulo 256, the sum of the bytes as words. -/
theorem ofNat_frameSum (f : Frame) : BitVec.ofNat 8 (frameSum f) = f[1] + f[2] + f[3] + f[4] + f[5] + f[6] + f[7] := by
  simp only [frameSum, BitVec.ofNat_add, BitVec.ofNat_toNat, BitVec.setWidth_eq]

/-- The checksum is the negation of the sum, modulo 256 (40_frame_checksum.md R101). -/
theorem cks_eq_neg (f : Frame) : cks f = -(f[1] + f[2] + f[3] + f[4] + f[5] + f[6] + f[7]) := by
  rw [← ofNat_frameSum]
  apply BitVec.eq_of_toNat_eq
  rw [cks_toNat, BitVec.toNat_neg, BitVec.toNat_ofNat]

theorem cks_eq_zero_iff (f : Frame) : cks f = 0 ↔ frameSum f % 256 = 0 := by
  rw [← BitVec.toNat_inj, cks_toNat, BitVec.ofNat_eq_ofNat, BitVec.toNat_zero]
  omega

theorem frameSum_le (f : Frame) : frameSum f ≤ 1785 := by
  rw [frameSum]
  omega

/-- Settles O21: `cks` as a negation, where it is 0, and the bound of `frameSum`. -/
theorem checksumIsTwosComplement : Obligations.ChecksumIsTwosComplement :=
  fun f => ⟨cks_eq_neg f, cks_eq_zero_iff f, frameSum_le f⟩

/-! ### BUILD and CHECK -/

/-- BUILD keeps the bytes 2 to 7. -/
theorem builtFrame_kept (f : Frame) (k : Nat) (hlow : 2 ≤ k) (hhigh : k < 8) : (builtFrame f)[k] = f[k] := by
  simp (disch := omega) only [builtFrame, Vector.getElem_set_ne]

/-- Settles O22, byte by byte: the checksum that BUILD stores is the one of the frame that it leaves. -/
theorem buildCompletesARequestFrame : Obligations.BuildCompletesARequestFrame := by
  intro s
  have kept := builtFrame_kept s.fb
  refine ⟨buildFrame s, rfl, builtFrame_zero s.fb, builtFrame_one s.fb, kept 2 (by decide) (by decide),
    kept 3 (by decide) (by decide), kept 4 (by decide) (by decide), kept 5 (by decide) (by decide),
    kept 6 (by decide) (by decide), kept 7 (by decide) (by decide), ?cksum, (builtFrame_eight s.fb).symm, rfl, rfl⟩
  case cksum =>
    have hsum : frameSum (builtFrame s.fb) = 1 + s.fb[2].toNat + s.fb[3].toNat + s.fb[4].toNat + s.fb[5].toNat +
        s.fb[6].toNat + s.fb[7].toNat := by
      simp [frameSum, kept]
    rw [← hsum, ← cks_toNat]
    exact congrArg BitVec.toNat (builtFrame_eight s.fb)

theorem checkErr_code (valid : Bool) : (checkErr valid).code = if valid then 0 else 2 := by cases valid <;> rfl

/-- Settles O24: the fields of `checkFrame`. -/
theorem checkValidatesTheChecksum : Obligations.CheckValidatesTheChecksum := by
  intro s
  have hcode := (checkErr_code (cks s.fb == s.fb[8])).trans (if_congr beq_iff_eq rfl rfl)
  exact ⟨checkFrame s, rfl, cks_toNat s.fb, beq_iff_eq, hcode, rfl⟩

/-- CHECK of a frame whose byte 8 is its checksum. -/
theorem checkFrame_of_cks_eq (s : State) (h : cks s.fb = s.fb[8]) :
    checkFrame s = { s with cksum := s.fb[8], valid := true, err := .ok, response := .written } := by
  simp only [checkFrame, h, beq_self_eq_true]
  rfl

/-! ### Validity as a sum -/

/-- The sum of bytes 1 to 8 modulo 256, which decides the validity of a frame (40_frame_checksum.md R102). -/
def bodySum (f : Frame) : Byte := ∑ k ∈ Finset.univ.erase (0 : Fin 9), f[k]

/-- `bodySum` written out. -/
theorem bodySum_eq (f : Frame) : bodySum f = f[1] + f[2] + f[3] + f[4] + f[5] + f[6] + f[7] + f[8] := by
  have hbody : Finset.univ.erase (0 : Fin 9) = {1, 2, 3, 4, 5, 6, 7, 8} := by decide
  simp [bodySum, hbody, add_assoc]

theorem bodySum_toNat (f : Frame) : (bodySum f).toNat = (frameSum f + f[8].toNat) % 256 := by
  rw [bodySum_eq, ← ofNat_frameSum, BitVec.toNat_add, BitVec.toNat_ofNat, Nat.mod_add_mod]

/-- CHECK compares the checksum with byte 8. -/
theorem frameValid_iff_cks (s : State) : FrameValid s ↔ cks s.fb = s.fb[8] := by
  have hvalid : FrameValid s ↔ (checkFrame s).valid = true :=
    ⟨fun ⟨_, hexec, ht⟩ => Host.Outcome.next.inj hexec ▸ ht, fun h => ⟨checkFrame s, rfl, h⟩⟩
  exact hvalid.trans beq_iff_eq

/-- A frame is valid exactly when its bytes 1 to 8 sum to 0 (40_frame_checksum.md R102). -/
theorem frameValid_iff_bodySum (s : State) : FrameValid s ↔ bodySum s.fb = 0 := by
  rw [frameValid_iff_cks, cks_eq_neg, neg_eq_iff_add_eq_zero, ← bodySum_eq]

theorem bodySum_eq_zero_iff (f : Frame) : bodySum f = 0 ↔ (frameSum f + f[8].toNat) % 256 = 0 := by
  rw [← BitVec.toNat_inj, bodySum_toNat, BitVec.ofNat_eq_ofNat, BitVec.toNat_zero]

/-- Settles O23: BUILD leaves a valid frame, and CHECK reads nothing but the frame. -/
theorem builtFrameChecks : Obligations.BuiltFrameChecks := by
  intro s
  refine ⟨buildFrame s, rfl, ?sum, fun u hu => ?check⟩
  case sum => exact (bodySum_eq_zero_iff _).mp ((frameValid_iff_bodySum _).mp (frameValid_buildFrame s))
  case check =>
    have hcks : cks u.fb = u.fb[8] := by
      rw [hu]
      exact (frameValid_iff_cks _).mp (frameValid_buildFrame s)
    rw [exec_eq_effect, effect, checkFrame_of_cks_eq u hcks, ← hu]

/-! ### Changes of the frame -/

/-- A frame with one byte replaced, as a function of the position. -/
theorem getElem_set_eq_update (f : Frame) (k n : Fin 9) (b : Byte) :
    (f.set k b)[n] = Function.update (fun m : Fin 9 => f[m]) k b n := by
  simp only [Function.update_apply, Fin.getElem_fin, Vector.getElem_set, Fin.val_inj, eq_comm]

/-- Replacing a byte other than byte 0 changes the sum by the difference. -/
theorem bodySum_set (f : Frame) (k : Fin 9) (b : Byte) (hk : k ≠ 0) : bodySum (f.set k b) = bodySum f - f[k] + b := by
  have hmem : k ∈ Finset.univ.erase (0 : Fin 9) := Finset.mem_erase.mpr ⟨hk, Finset.mem_univ k⟩
  simp only [bodySum, getElem_set_eq_update, Finset.sum_update_of_mem hmem, Finset.sdiff_singleton_eq_erase,
    Finset.sum_erase_eq_sub hmem]
  exact add_comm _ _

/-- Byte 0 takes no part in the sum (40_frame_checksum.md R107). -/
theorem bodySum_set_zero (f : Frame) (b : Byte) : bodySum (f.set 0 b) = bodySum f := by
  have hupdate := getElem_set_eq_update f 0
  simp only [Fin.val_zero] at hupdate
  simp only [bodySum, hupdate, Finset.sum_update_of_notMem (Finset.notMem_erase (0 : Fin 9) Finset.univ)]

/-- A reordering that keeps byte 0 in its place keeps the sum. -/
theorem bodySum_permute (f : Frame) (p : Equiv.Perm (Fin 9)) (hp : p 0 = 0) :
    bodySum (Vector.ofFn fun n => f[p n]) = bodySum f := by
  have hmem : ∀ n, n ∈ Finset.univ.erase (0 : Fin 9) ↔ p n ∈ Finset.univ.erase (0 : Fin 9) := fun n => by
    simp [p.injective.eq_iff' hp]
  exact Finset.sum_equiv p hmem fun n _ => by simp

/-- Settles O25: by the two forms of validity; byte 0 is no term of the sum. -/
theorem validFrameSumsToZero : Obligations.ValidFrameSumsToZero := by
  intro s
  refine ⟨?cks, (frameValid_iff_bodySum s).trans (bodySum_eq_zero_iff s.fb), fun b => ?byte0⟩
  case cks =>
    rw [frameValid_iff_cks, ← BitVec.toNat_inj, cks_toNat]
    rfl
  case byte0 => rw [frameValid_iff_bodySum, frameValid_iff_bodySum, bodySum_set_zero]

/-- Settles O26: what each change does to the sum of bytes 1 to 8, which is 0 before it. -/
theorem checkDetectionPower : Obligations.CheckDetectionPower := by
  intro s j k b p hj hk hp hs
  simp only [frameValid_iff_bodySum] at hs ⊢
  refine ⟨fun hb h => ?one, ?permuted, ?byte0, fun hjk => ?two⟩
  case one =>
    rw [bodySum_set s.fb k b hk, hs, zero_sub] at h
    exact hb (neg_add_eq_zero.mp h).symm
  case permuted => rw [bodySum_permute s.fb p hp, hs]
  case byte0 => rw [bodySum_set_zero, hs]
  case two =>
    have hkept : (s.fb.set j (s.fb[j] + b))[k] = s.fb[k] := Vector.getElem_set_ne _ _ (Fin.val_ne_of_ne hjk)
    rw [bodySum_set _ k _ hk, hkept, bodySum_set _ j _ hj, hs]
    ring

/-! ### VALID gates no command -/

/-- The state `s` with STATUS.VALID replaced. -/
def withValid (v : Bool) (s : State) : State := { s with valid := v }

/-- No command but CHECK reads or writes VALID (40_frame_checksum.md R109). -/
theorem command_withValid (c : Command) (hc : c ≠ .check) (v : Bool) (s : State) :
    effect c.toInstr (withValid v s) = withValid v (effect c.toInstr s) := by
  cases c with
  | check => exact absurd rfl hc
  | thermA | thermB => simp only [Command.toInstr, effect, convertTemp_eq, withValid]
  | build | decode | corr => rfl

theorem command_keeps_valid (c : Command) (hc : c ≠ .check) (s : State) : (effect c.toInstr s).valid = s.valid := by
  obtain ⟨hvalid, -⟩ := command_flags c s
  exact not_not.mp (mt hvalid hc)

/-- Each of the five instructions is a command other than CHECK. -/
theorem mem_commands_but_check {i : Instr} (h : i ∈ [.build, .thermA, .thermB, .decode, .corr]) :
    ∃ c : Command, c ≠ .check ∧ i = c.toInstr := by
  simp only [List.mem_cons, List.not_mem_nil, or_false] at h
  rcases h with rfl | rfl | rfl | rfl | rfl
  · exact ⟨.build, by decide, rfl⟩
  · exact ⟨.thermA, by decide, rfl⟩
  · exact ⟨.thermB, by decide, rfl⟩
  · exact ⟨.decode, by decide, rfl⟩
  · exact ⟨.corr, by decide, rfl⟩

/-- Settles O41: a command other than CHECK neither reads nor writes VALID. -/
theorem noValidityGate : Obligations.NoValidityGate := by
  intro s t v i hi ht
  obtain ⟨c, hc, rfl⟩ := mem_commands_but_check hi
  obtain rfl := (exec_next_iff _ s t).mp ht
  exact ⟨(exec_next_iff _ _ _).mpr (command_withValid c hc v s).symm, command_keeps_valid c hc s⟩

end Sys2Proof.Machine
end

section
/-! PROOF. The invariant (the parameters' constraints, TEMP without TVALID, UNIT and GAS): it holds after a reset, and every step
keeps it. -/

namespace Sys2Proof.Machine

/-! ### After reset -/

theorem not_accepts_excluding (e : Band) (t : Int) : ¬ (e.excluding t).accepts t = true := by
  rw [Band.excluding]
  split_ifs with h
  · simp [Band.accepts, Band.en]
  · exact h

/-- R163(a) holds of every admitted table: no band of its CO slot accepts -30 °C. -/
theorem tableAdmitted_admitTable (t : CalTable) : tableAdmitted (admitTable t) = true := by
  have hslot (b : Fin 8) : (admitTable t)[0][b] = (t.entry 0 b).excluding minusThirty := by simp [admitTable]
  rw [tableAdmitted, Option.isNone_iff_eq_none, selectBand, List.find?_eq_none]
  intro b _
  rw [hslot]
  exact not_accepts_excluding _ _

/-- The default parameters meet the constraints of every parameter, whatever the free words of CAL_DEFAULT are. -/
theorem configOk_defaultConfig : configOk defaultConfig = true := by
  have htable : tableAdmitted defaultConfig.calDefault = true := tableAdmitted_admitTable _
  have hothers : defaultConfig.others = defaultOthers := rfl
  rw [configOk, htable, hothers, Bool.and_true]
  decide

theorem blockInv_resetWith {cfg : Config} (h : configOk cfg = true) : BlockInv (State.resetWith cfg) where
  params := h
  noTemp _ := rfl
  unitOfGas := iff_of_true rfl rfl
  classified := .inr ⟨rfl, rfl⟩

/-- Settles O45: the invariant holds after a reset under any admissible parameters, and the default ones are admissible. -/
theorem resetMeetsTheInvariant : Obligations.ResetMeetsTheInvariant := blockInv_resetWith configOk_defaultConfig

/-! ### Classification -/

/-- What `findProbe` answers stands in the list it searched. -/
theorem findProbe_mem {entries : List (Gas × GasParam)} {p : Byte} {g : Gas} {u : UnitCode}
    (h : findProbe entries p = some (g, u)) : ∃ e, (g, e) ∈ entries ∧ e.unit = u := by
  induction entries with
  | nil => cases h
  | cons x rest ih =>
    obtain ⟨g', e⟩ := x
    rw [findProbe] at h
    split at h
    · cases h
      exact ⟨e, List.mem_cons_self, rfl⟩
    · obtain ⟨e', hmem, hunit⟩ := ih h
      exact ⟨e', List.mem_cons_of_mem _ hmem, hunit⟩

/-- Every gas of admissible parameters has a unit (42_gas_calibration.md R142). -/
theorem unit_ne_none_of_configOk {cfg : Config} (h : configOk cfg = true) {e : GasParam} (he : e ∈ cfg.others.toList) :
    e.unit ≠ .none := by
  simp only [configOk, Bool.and_eq_true, List.all_eq_true, bne_iff_ne] at h
  obtain ⟨⟨-, hunits⟩, -⟩ := h
  exact hunits e he

/-- Classification under admissible parameters leaves out the unit exactly for Unknown (R142, R143). -/
theorem classify_unit_none_iff {cfg : Config} (h : configOk cfg = true) (p : Byte) :
    (classify cfg p).2 = .none ↔ (classify cfg p).1 = .unknown := by
  unfold classify
  split_ifs
  · decide
  · decide
  · decide
  · cases hfind : findProbe (otherGases.zip cfg.others.toList) p with
    | none => exact iff_of_true rfl rfl
    | some x =>
      obtain ⟨g, u⟩ := x
      obtain ⟨e, hmem, rfl⟩ := findProbe_mem hfind
      obtain ⟨hgas, hparam⟩ := List.of_mem_zip hmem
      have hknown : ∀ g ∈ otherGases, g ≠ .unknown := by decide
      exact iff_of_false (unit_ne_none_of_configOk h hparam) (hknown g hgas)

/-! ### Every step -/

/-- DECODE leaves GAS classified under the state's parameters. -/
theorem blockInv_decodeResponse {s : State} (h : BlockInv s) : BlockInv (decodeResponse s) where
  params := h.params
  noTemp := h.noTemp
  unitOfGas := classify_unit_none_iff h.params (probeField s.fb)
  classified := .inl rfl

/-- THERM clears TVALID only together with writing the sentinel (41_thermistor.md R125). -/
theorem blockInv_convertTemp {s : State} (h : BlockInv s) (c : BitVec 16) : BlockInv (convertTemp c s) := by
  rw [convertTemp]
  cases thermCelsius c.toNat with
  | some q => exact ⟨h.params, Bool.noConfusion, h.unitOfGas, h.classified⟩
  | none => exact ⟨h.params, fun _ => rfl, h.unitOfGas, h.classified⟩

theorem blockInv_command {s : State} (h : BlockInv s) (c : Command) : BlockInv (effect c.toInstr s) := by
  cases c with
  | thermA => exact blockInv_convertTemp h _
  | thermB => exact blockInv_convertTemp h _
  | decode => exact blockInv_decodeResponse h
  | build | check | corr => exact ⟨h.params, h.noTemp, h.unitOfGas, h.classified⟩

/-- A write of TEMP sets TVALID; no other register write touches what the invariant speaks of. -/
theorem blockInv_writeReg {s : State} (h : BlockInv s) (r : Reg) (v : Word) : BlockInv (writeReg s r v) := by
  cases r with
  | temp => exact ⟨h.params, Bool.noConfusion, h.unitOfGas, h.classified⟩
  | _ => exact ⟨h.params, h.noTemp, h.unitOfGas, h.classified⟩

/-- The invariant does not speak of the bus's answer. -/
theorem blockInv_respond {s : State} (h : BlockInv s) (a : BusResponse) : BlockInv (respond a s) :=
  ⟨h.params, h.noTemp, h.unitOfGas, h.classified⟩

/-- The invariant does not speak of the events still to come. -/
theorem blockInv_withPending {s : State} (h : BlockInv s) (p : List HostEvent) : BlockInv (withPending p s) :=
  ⟨h.params, h.noTemp, h.unitOfGas, h.classified⟩

/-- Each of the four ways in which an instruction acts keeps the invariant. -/
theorem blockInv_action {i : Instr} {s t : State} (h : BlockInv s) (ht : Action i s t) : BlockInv t := by
  cases ht with
  | command c _ => exact blockInv_command h c
  | illegal w _ => exact ⟨h.params, h.noTemp, h.unitOfGas, h.classified⟩
  | write r v _ _ => exact blockInv_respond (blockInv_writeReg h r v) .written
  | answer a => exact blockInv_respond h a

theorem blockInv_applyReset {s : State} (h : BlockInv s) : BlockInv (applyReset s) :=
  blockInv_withPending (blockInv_resetWith h.params) s.pending

theorem blockInv_serveAccess {s t : State} (h : BlockInv s) (x : BusAccess) (ht : serveAccess x s = .next t) : BlockInv t := by
  cases hx : decodeAccess s.cfg.base x with
  | ok i =>
    rw [serveAccess_of_ok hx] at ht
    exact blockInv_action h (action_of_exec ht)
  | error r =>
    rw [serveAccess_of_error hx] at ht
    exact Host.Outcome.next.inj ht ▸ h

/-- Serving any event keeps the invariant. -/
theorem blockInv_serve {s t : State} (h : BlockInv s) (e : HostEvent) (ht : serve e s = .next t) : BlockInv t := by
  cases e with
  | access x => exact blockInv_serveAccess h x ht
  | reset | resetDuring x => exact Host.Outcome.next.inj ht ▸ blockInv_applyReset h

/-- Settles O46: a step serves one event, on the state with that event taken, or leaves the state as it is. -/
theorem stepKeepsTheInvariant : Obligations.StepKeepsTheInvariant := by
  intro s t h ht
  cases hp : s.pending with
  | nil =>
    rw [step, hp] at ht
    exact Host.Outcome.next.inj ht ▸ h
  | cons e rest =>
    rw [step, hp] at ht
    exact blockInv_serve (blockInv_withPending h rest) e ht

end Sys2Proof.Machine
end

section
/-! PROOF. The thermistor's table of results: its domain, its range and its descent (41_thermistor.md R122, R123, R125). -/

namespace Sys2Proof.Machine

/-- A result is the table's entry for a converting code, counted from 1. -/
theorem thermCelsius_eq_some_iff (c : Nat) (q : Int) :
    thermCelsius c = some q ↔ ∃ k : Fin 1023, c = k + 1 ∧ q ∈ thermRomAt k := by
  unfold thermCelsius
  constructor
  · intro h
    split at h
    · exact ⟨⟨c - 1, by omega⟩, by simp only; omega, h⟩
    · cases h
  · rintro ⟨k, rfl, hq⟩
    rwa [if_pos (by omega), Nat.add_sub_cancel]

/-- The entries of the table lie between its last and its first (41_thermistor.md R123). -/
theorem thermRomAt_range : ∀ k : Fin 1023, ∀ q ∈ thermRomAt k, -5774698 ≤ q ∧ q ≤ 32369885 := by decide +kernel

/-- Adjacent entries of the table are at least 6531 apart, the earlier one above the later one (R123). -/
theorem thermRomAt_gap : ∀ k : Fin 1022, ∀ p ∈ thermRomAt k, ∀ q ∈ thermRomAt (k + 1), q + 6531 ≤ p := by decide +kernel

theorem thermCelsius_range {c : Nat} {q : Int} (h : thermCelsius c = some q) : -5774698 ≤ q ∧ q ≤ 32369885 := by
  obtain ⟨k, -, hq⟩ := (thermCelsius_eq_some_iff c q).mp h
  exact thermRomAt_range k q hq

theorem thermCelsius_gap {c : Nat} {p q : Int} (hp : thermCelsius c = some p) (hq : thermCelsius (c + 1) = some q) :
    q + 6531 ≤ p := by
  obtain ⟨k, rfl, hpk⟩ := (thermCelsius_eq_some_iff c p).mp hp
  obtain ⟨j, hj, hqj⟩ := (thermCelsius_eq_some_iff _ q).mp hq
  rw [← Nat.succ.inj hj] at hqj
  exact thermRomAt_gap ⟨k, by omega⟩ p hpk q hqj

/-- A result is kept by the 32 bits of TEMP. -/
theorem toInt_ofInt_thermCelsius {c : Nat} {q : Int} (h : thermCelsius c = some q) : (BitVec.ofInt 32 q).toInt = q := by
  obtain ⟨hlow, hhigh⟩ := thermCelsius_range h
  exact BitVec.toInt_ofInt_eq_self (by decide) (by omega) (by omega)

/-- No result is the sentinel (R125). -/
theorem ofInt_thermCelsius_ne_sentinel {c : Nat} {q : Int} (h : thermCelsius c = some q) : BitVec.ofInt 32 q ≠ sentinel := by
  intro hs
  obtain ⟨hlow, -⟩ := thermCelsius_range h
  have hq : q = sentinel.toInt := (toInt_ofInt_thermCelsius h).symm.trans (congrArg BitVec.toInt hs)
  have hsentinel : sentinel.toInt = -2147483648 := by decide
  omega

/-- Settles O29: the descent and the range of the table's entries, and the domain of the conversion. -/
theorem thermResultsDecrease : Obligations.ThermResultsDecrease :=
  ⟨rfl, rfl, rfl, fun _ _ _ => thermCelsius_gap, fun _ _ => ofInt_thermCelsius_ne_sentinel,
    fun c => Option.isSome_iff_exists.symm.trans (thermCelsius_isSome_iff c)⟩

end Sys2Proof.Machine
end

section
/-! PROOF. The thermistor's table against the Beta equation over the reals (41_thermistor.md R120 to R123): the temperature as a
function of one logarithm, that logarithm to within an integer bound, and the rounding decided in integers. -/

namespace Sys2Proof.Machine

/-! ### The Beta equation in one logarithm -/

/-- The temperature in degrees Celsius whose logarithm of the resistance ratio is `L` (R121). -/
noncomputable def celsiusOfLog (L : ℝ) : ℝ := 1 / (1 / 298.15 + L / 3380.13) - 273.15

/-- The source's three lines at a converting code, with the resistance ratio reduced to `c / (1024 - c)` (R120, R121). -/
theorem isCelsius_celsiusOfLog {c : Nat} (hc : c ≤ 1023) :
    Reference.IsCelsius c (celsiusOfLog (Real.log (c / (1024 - c)))) := by
  have hpos : (0 : ℝ) < 1024 - c := by
    have : (c : ℝ) ≤ 1023 := by exact_mod_cast hc
    linarith
  have hv : (3 : ℝ) - c / 1024 * 3.0 = 3 * (1024 - c) / 1024 := by
    norm_num
    ring
  have hratio : (c / 1024 * 3.0 * 10000 / (3 - c / 1024 * 3.0) / 10000 : ℝ) = c / (1024 - c) := by
    rw [hv]
    field_simp
    norm_num
  exact ⟨_, _, rfl, rfl, by rw [hratio, celsiusOfLog]⟩

/-- `2^50 * ln (c / (1024 - c))` to within 17374: the difference of two logarithms whose errors are at most 17 for each of the 1022
steps between the two ends of the scale. -/
def logRatio (c : Nat) : Int := Laws.logFloor (c - 1) - Laws.logFloor (1023 - c)

theorem logRatio_bounds {c : Nat} (hlow : 1 ≤ c) (hhigh : c ≤ 1023) :
    |2 ^ 50 * Real.log (c / (1024 - c)) - logRatio c| ≤ 17374 := by
  obtain ⟨n, rfl⟩ := Nat.exists_eq_add_of_le' hlow
  obtain ⟨m, hm⟩ := Nat.exists_eq_add_of_le hhigh
  have hdenom : (1024 : ℝ) - (n + 1 : Nat) = m + 1 := by
    have : (1023 : ℝ) = (n + 1 : Nat) + m := by exact_mod_cast hm
    linarith
  have hlog : Real.log ((n + 1 : Nat) / (m + 1 : ℝ)) = Real.log (n + 1) - Real.log (m + 1) := by
    rw [Real.log_div (by positivity) (by positivity), Nat.cast_succ]
  have hfloor : logRatio (n + 1) = (Laws.logFloor n : Int) - Laws.logFloor m := by
    rw [logRatio, Nat.add_sub_cancel, hm, Nat.add_sub_cancel_left]
  have hslack : (n : ℝ) + m = 1022 := by
    have : n + m = 1022 := by omega
    exact_mod_cast this
  obtain ⟨hn₀, hn₁⟩ := Laws.logFloor_bounds n
  obtain ⟨hm₀, hm₁⟩ := Laws.logFloor_bounds m
  have hnPos : (0 : ℝ) ≤ n := n.cast_nonneg
  have hmPos : (0 : ℝ) ≤ m := m.cast_nonneg
  rw [hdenom, hlog, hfloor, abs_le]
  push_cast
  constructor <;> linarith

/-! ### Rounding, decided in integers -/

/-- `q` is the nearest integer to 65536 times the temperature of the logarithm `y / 2^50`, for every `y` within 17374 of `x`: the two
half-way bounds on the temperature, cleared of their denominators (`716046336 = 40 * 65536 * 273.15`,
`338013 = 100 * 3380.13`, `29815 = 100 * 298.15`, and `2015571519` is a fifth of the product of the last two). -/
def RoundsTo (x q : Int) : Prop :=
  (716046336 + 40 * q - 20) * (338013 * 2 ^ 50 + 29815 * (x + 17374)) < 131072 * 2015571519 * 2 ^ 50 ∧
    131072 * 2015571519 * 2 ^ 50 < (716046336 + 40 * q + 20) * (338013 * 2 ^ 50 + 29815 * (x - 17374))

/-- The temperature as one fraction of the logarithm in 50 binary places. -/
theorem celsiusOfLog_eq (L : ℝ) :
    celsiusOfLog L * 65536 = (131072 * 2015571519 * 2 ^ 50 / (338013 * 2 ^ 50 + 29815 * (2 ^ 50 * L)) - 716046336) / 40 := by
  have hsum : (1 / 298.15 + L / 3380.13 : ℝ) = (338013 * 2 ^ 50 + 29815 * (2 ^ 50 * L)) / (2015571519 * 2 ^ 50 / 20) := by
    norm_num
    ring
  rw [celsiusOfLog, hsum, one_div_div]
  ring

/-- The integer bounds round the real temperature correctly. -/
theorem isRne_celsiusOfLog {L : ℝ} {x q : Int} (hq : -5774698 ≤ q) (hL : |2 ^ 50 * L - x| ≤ 17374) (h : RoundsTo x q) :
    Reference.IsRne (celsiusOfLog L * 65536) q := by
  obtain ⟨hlow, hhigh⟩ := h
  have hlow' : (716046336 + 40 * q - 20 : ℝ) * (338013 * 2 ^ 50 + 29815 * (x + 17374)) < 131072 * 2015571519 * 2 ^ 50 := by
    exact_mod_cast hlow
  have hhigh' : (131072 * 2015571519 * 2 ^ 50 : ℝ) < (716046336 + 40 * q + 20) * (338013 * 2 ^ 50 + 29815 * (x - 17374)) := by
    exact_mod_cast hhigh
  have hq' : (-5774698 : ℝ) ≤ q := by exact_mod_cast hq
  obtain ⟨hbelow, habove⟩ := abs_le.mp hL
  rw [celsiusOfLog_eq]
  set D : ℝ := 338013 * 2 ^ 50 + 29815 * (2 ^ 50 * L) with hD
  have hDlow : 338013 * 2 ^ 50 + 29815 * (x - 17374) ≤ D := by linarith
  have hDhigh : D ≤ 338013 * 2 ^ 50 + 29815 * (x + 17374) := by linarith
  have hDpos : 0 < D := (pos_of_mul_pos_right (lt_trans (by norm_num) hhigh') (by linarith)).trans_le hDlow
  have hmore : (716046336 + 40 * q - 20 : ℝ) < 131072 * 2015571519 * 2 ^ 50 / D := by
    rw [lt_div_iff₀ hDpos]
    exact (mul_le_mul_of_nonneg_left hDhigh (by linarith)).trans_lt hlow'
  have hless : 131072 * 2015571519 * 2 ^ 50 / D < (716046336 + 40 * q + 20 : ℝ) := by
    rw [div_lt_iff₀ hDpos]
    exact hhigh'.trans_le (mul_le_mul_of_nonneg_left hDlow (by linarith))
  refine .inl (abs_lt.mpr ⟨?_, ?_⟩) <;> linarith

/-- Every entry of the table meets the integer bounds at its code. -/
theorem roundsTo_thermRomAt : ∀ k : Fin 1023, ∀ q ∈ thermRomAt k, RoundsTo (logRatio (k + 1)) q := by
  unfold RoundsTo
  decide +kernel

/-- A result of the table is the correctly rounded temperature of its code (R123). -/
theorem isThermResult_thermCelsius {c : Nat} {q : Int} (h : thermCelsius c = some q) : Reference.IsThermResult c q := by
  obtain ⟨hlow, hhigh⟩ := (thermCelsius_isSome_iff c).mp (Option.isSome_of_eq_some h)
  obtain ⟨hrange, -⟩ := thermCelsius_range h
  obtain ⟨k, rfl, hq⟩ := (thermCelsius_eq_some_iff c q).mp h
  exact ⟨_, isCelsius_celsiusOfLog hhigh, isRne_celsiusOfLog hrange (logRatio_bounds hlow hhigh) (roundsTo_thermRomAt k q hq)⟩

/-- Settles O28: every converting code has a result, and every result is correctly rounded. -/
theorem thermTableIsCorrectlyRounded : Obligations.ThermTableIsCorrectlyRounded := by
  intro c hlow hhigh
  obtain ⟨q, hq⟩ := Option.isSome_iff_exists.mp ((thermCelsius_isSome_iff c).mpr ⟨hlow, hhigh⟩)
  exact ⟨q, hq, isThermResult_thermCelsius hq⟩

end Sys2Proof.Machine
end

section
/-! PROOF. THERM.A and THERM.B: the code they read and the two outcomes of its conversion (41_thermistor.md R124, R125). -/

namespace Sys2Proof.Machine

theorem be16_toNat (hi lo : Byte) : (be16 hi lo).toNat = 256 * hi.toNat + lo.toNat := by
  rw [be16, toNat_append_eq_add]
  omega

theorem convertTemp_of_some {c : BitVec 16} {q : Int} (h : thermCelsius c.toNat = some q) (s : State) :
    convertTemp c s = complete .ok { s with tadc := c, temp := BitVec.ofInt 32 q, tvalid := true } := by
  rw [convertTemp, h]

theorem convertTemp_of_none {c : BitVec 16} (h : thermCelsius c.toNat = none) (s : State) :
    convertTemp c s = complete .singular { s with tadc := c, temp := sentinel, tvalid := false } := by
  rw [convertTemp, h]

/-- Both forms of THERM convert the 16-bit code that stands at their two frame bytes (30_encoding.md R83). -/
theorem exec_therm {s : State} {i : Instr} {c : Nat}
    (h : (i = .thermA ∧ c = 256 * s.fb[2].toNat + s.fb[3].toNat) ∨ (i = .thermB ∧ c = 256 * s.fb[6].toNat + s.fb[7].toNat)) :
    ∃ code : BitVec 16, code.toNat = c ∧ exec i s = .next (convertTemp code s) := by
  rcases h with ⟨rfl, rfl⟩ | ⟨rfl, rfl⟩
  · exact ⟨thermCodeA s.fb, be16_toNat _ _, rfl⟩
  · exact ⟨thermCodeB s.fb, be16_toNat _ _, rfl⟩

/-- Settles O27: a code with a result converts to it, correctly rounded and kept by TEMP; a code without one reports SINGULAR. -/
theorem thermConvertsOrReportsSingular : Obligations.ThermConvertsOrReportsSingular := by
  intro s i c h
  obtain ⟨code, rfl, hexec⟩ := exec_therm h
  refine ⟨_, hexec, ?_⟩
  have hdomain := thermCelsius_isSome_iff code.toNat
  cases hcode : thermCelsius code.toNat with
  | some q =>
    rw [convertTemp_of_some hcode, if_pos (hdomain.mp (Option.isSome_of_eq_some hcode))]
    have hresult : Reference.IsThermResult code.toNat (BitVec.ofInt 32 q).toInt :=
      (toInt_ofInt_thermCelsius hcode).symm ▸ isThermResult_thermCelsius hcode
    exact ⟨rfl, ⟨rfl, rfl, hresult⟩, rfl⟩
  | none =>
    have hsingular : ¬ (1 ≤ code.toNat ∧ code.toNat ≤ 1023) := by simp [← hdomain, hcode]
    rw [convertTemp_of_none hcode, if_neg hsingular]
    exact ⟨rfl, ⟨rfl, rfl, rfl⟩, rfl⟩

end Sys2Proof.Machine
end

section
/-! PROOF. DECODE: the fields it extracts, and the classification of probe bytes as a partial map with a default
(42_gas_calibration.md R140 to R151). -/

namespace Sys2Proof.Machine

/-! ### The fields of a response -/

/-- The effective resolution is the resolution byte where that is a code, and 0 elsewhere (R150). -/
theorem resolution_val (rb : Byte) : (resolution rb).val = if rb.toNat ≤ 2 then rb.toNat else 0 := by
  revert rb
  decide

theorem gas_code_eq_fifteen_iff (g : Gas) : g.code = 15 ↔ g = .unknown := by cases g <;> decide

/-- DECODE's outcome in codes: RESCODE before UNKGAS (R151, R186). -/
theorem decodeErr_code (rb : Byte) (g : Gas) :
    (decodeErr rb g).code = if 2 < rb.toNat then 4 else if g.code = 15 then 5 else 0 := by
  simp only [decodeErr, apply_ite ErrCode.code, gas_code_eq_fifteen_iff]
  rfl

/-- Settles O30: the fields of `decodeResponse`, read as numbers. -/
theorem decodeExtractsTheResponse : Obligations.DecodeExtractsTheResponse := fun s =>
  ⟨decodeResponse s, rfl, be16_toNat _ _, resolution_val _, rfl, rfl, decodeErr_code _ _, rfl⟩

/-! ### Classification -/

/-- Among entries with distinct codes, the code of an entry finds that entry. -/
theorem findProbe_of_mem {entries : List (Gas × GasParam)} (hdistinct : ((entries.map Prod.snd).map GasParam.code).Nodup)
    {g : Gas} {e : GasParam} (hmem : (g, e) ∈ entries) : findProbe entries e.code = some (g, e.unit) := by
  induction entries with
  | nil => cases hmem
  | cons x rest ih =>
    rw [List.map_cons, List.map_cons, List.nodup_cons] at hdistinct
    obtain ⟨hfresh, hrest⟩ := hdistinct
    rcases List.mem_cons.mp hmem with rfl | hlater
    · exact if_pos rfl
    · have hother : x.2.code ≠ e.code := fun heq => hfresh (heq ▸ List.mem_map_of_mem (List.mem_map_of_mem hlater))
      rw [findProbe, if_neg hother]
      exact ih hrest hlater

/-- A byte that is no entry's code finds nothing. -/
theorem findProbe_eq_none {entries : List (Gas × GasParam)} {p : Byte} (h : ∀ x ∈ entries, x.2.code ≠ p) :
    findProbe entries p = none := by
  induction entries with
  | nil => rfl
  | cons x rest ih =>
    rw [findProbe, if_neg (h x List.mem_cons_self)]
    exact ih fun y hy => h y (List.mem_cons_of_mem x hy)

/-- Admissible parameters have twelve distinct codes, none of them 0xFF (R141). -/
theorem codes_nodup_of_configOk {cfg : Config} (h : configOk cfg = true) :
    (0x05 :: 0x04 :: 0xFF :: cfg.others.toList.map GasParam.code).Nodup := by
  simp only [configOk, Bool.and_eq_true, decide_eq_true_eq] at h
  obtain ⟨⟨⟨-, hcodes⟩, -⟩, -⟩ := h
  exact hcodes

/-- A byte that the source fixes no meaning of is classified by the parameter's ten entries (R143). -/
theorem classify_of_open {cfg : Config} {p : Byte} (hO2 : p ≠ 0x05) (hCO : p ≠ 0x04) (hnone : p ≠ 0xFF) :
    classify cfg p = (findProbe (otherGases.zip cfg.others.toList) p).getD (.unknown, .none) := by
  rw [classify, if_neg hO2, if_neg hCO, if_neg hnone]

/-- The `k`-th of the ten parameter entries is the `k`-th open gas's. -/
theorem mem_zip_others (cfg : Config) {k : Fin 10} {g : Gas} (hg : otherGases[k.val]? = some g) :
    (g, cfg.others[k]) ∈ otherGases.zip cfg.others.toList := by
  have hparam : cfg.others.toList[k.val]? = some cfg.others[k] := by simp
  exact List.mem_of_getElem? (List.getElem?_zip_eq_some.mpr ⟨hg, hparam⟩)

/-- Under admissible parameters the code of each open gas classifies as that gas with its unit. -/
theorem classify_others {cfg : Config} (h : configOk cfg = true) {k : Fin 10} {g : Gas}
    (hg : otherGases[k.val]? = some g) : classify cfg cfg.others[k].code = (g, cfg.others[k].unit) := by
  have hcodes := codes_nodup_of_configOk h
  have hk : cfg.others[k].code ∈ cfg.others.toList.map GasParam.code := List.mem_map_of_mem (by simp)
  simp only [List.nodup_cons, List.mem_cons, not_or] at hcodes
  obtain ⟨⟨-, -, hO2⟩, ⟨-, hCO⟩, hnone, hothers⟩ := hcodes
  have hzip : (otherGases.zip cfg.others.toList).map Prod.snd = cfg.others.toList := List.map_snd_zip (by simp [otherGases])
  rw [classify_of_open (fun e => hO2 (e ▸ hk)) (fun e => hCO (e ▸ hk)) (fun e => hnone (e ▸ hk)),
    findProbe_of_mem (hzip.symm ▸ hothers) (mem_zip_others cfg hg)]
  rfl

/-- A byte that is none of the twelve codes classifies as Unknown without a unit. -/
theorem classify_unlisted {cfg : Config} {p : Byte} (hO2 : p ≠ 0x05) (hCO : p ≠ 0x04)
    (hothers : ∀ k : Fin 10, cfg.others[k].code ≠ p) : classify cfg p = (.unknown, .none) := by
  by_cases hnone : p = 0xFF
  · rw [hnone]
    rfl
  · have hmiss : ∀ x ∈ otherGases.zip cfg.others.toList, x.2.code ≠ p := by
      rintro ⟨g, e⟩ hx
      obtain ⟨-, hparam⟩ := List.of_mem_zip hx
      obtain ⟨k, hk, rfl⟩ := List.mem_iff_getElem.mp hparam
      exact hothers ⟨k, by simpa using hk⟩
    rw [classify_of_open hO2 hCO hnone, findProbe_eq_none hmiss]
    rfl

theorem otherGases_code : ∀ k : Fin 10, ∀ g ∈ otherGases[k.val]?, g.code.toNat = k.val + 2 := by decide

/-- Settles O31: the source's three bytes by the definition, the ten codes by the entry each is found at. -/
theorem classifyIsThePartialMap : Obligations.ClassifyIsThePartialMap := fun cfg h =>
  ⟨rfl, rfl, rfl,
    fun k g hg => ⟨classify_others h hg, otherGases_code k g hg, unit_ne_none_of_configOk h (by simp)⟩,
    fun _ hO2 hCO hothers => classify_unlisted hO2 hCO hothers⟩

/-- GAS after DECODE, as the number of its three fields. -/
theorem readReg_gas_decodeResponse (s : State) :
    (readReg (decodeResponse s) .gas).toNat =
      (classify s.cfg s.fb[4]).2.code.toNat * 4096 + (classify s.cfg s.fb[4]).1.code.toNat * 256 + s.fb[4].toNat :=
  readReg_gas_toNat _

/-- Settles O32: the classification of each listed byte, as the fields of GAS. -/
theorem defaultProbeCodes : Obligations.DefaultProbeCodes := by
  intro s hcfg
  refine ⟨decodeResponse s, rfl, ?_⟩
  intro pg hpg hbyte
  have hprobe : s.fb[4] = BitVec.ofNat 8 pg.1 := by rw [← hbyte, BitVec.ofNat_toNat, BitVec.setWidth_eq]
  rw [readReg_gas_decodeResponse, hcfg, hprobe]
  clear hbyte hprobe
  revert pg
  decide

end Sys2Proof.Machine
end

section
/-! PROOF. Band selection (42_gas_calibration.md R157): the least enabled band whose bounds hold the temperature. -/

namespace Sys2Proof.Machine

/-- Selection is the library's search for the least index. -/
theorem selectBand_eq_find? (bands : Vector Band 8) (t : Int) : selectBand bands t = Fin.find? fun b => bands[b].accepts t :=
  Fin.find?_eq_find?_finRange.symm

theorem selectBand_eq_some_iff {bands : Vector Band 8} {t : Int} {b : Fin 8} :
    selectBand bands t = some b ↔ bands[b].accepts t = true ∧ ∀ k : Fin 8, k < b → bands[k].accepts t = false := by
  rw [selectBand_eq_find?, Fin.find?_eq_some_iff]

theorem selectBand_eq_none_iff {bands : Vector Band 8} {t : Int} :
    selectBand bands t = none ↔ ∀ b : Fin 8, bands[b].accepts t = false := by
  rw [selectBand_eq_find?, Fin.find?_eq_none_iff]

/-- A bound that its flag makes inclusive admits equality too. -/
theorem bound_iff (inclusive : Bool) (x y : Int) :
    (if inclusive then decide (x ≤ y) else decide (x < y)) = true ↔ x < y ∨ (inclusive = true ∧ x = y) := by
  cases inclusive with
  | true => simpa using Int.le_iff_lt_or_eq
  | false => simp

theorem band_accepts_iff (e : Band) (t : Int) : e.accepts t = true ↔
    e.en = true ∧ (e.lo.toInt < t ∨ (e.loInc = true ∧ e.lo.toInt = t)) ∧
      (t < e.hi.toInt ∨ (e.hiInc = true ∧ e.hi.toInt = t)) := by
  rw [Band.accepts, Bool.and_eq_true, Band.contains, Bool.and_eq_true, bound_iff, bound_iff, eq_comm (a := t)]

/-- A band whose bounds do not ascend accepts only the one code that both bounds include. -/
theorem band_accepts_of_not_ascending {e : Band} {t : Int} (h : e.hi.toInt ≤ e.lo.toInt) (ht : e.accepts t = true) :
    t = e.lo.toInt ∧ e.lo = e.hi ∧ e.loInc = true ∧ e.hiInc = true := by
  obtain ⟨-, hlo, hhi⟩ := (band_accepts_iff e t).mp ht
  have hlow : e.lo.toInt ≤ t := hlo.elim le_of_lt fun ⟨_, heq⟩ => heq.le
  have hhigh : t ≤ e.hi.toInt := hhi.elim le_of_lt fun ⟨_, heq⟩ => heq.ge
  obtain ⟨hloInc, -⟩ := hlo.resolve_left (by omega)
  obtain ⟨hhiInc, -⟩ := hhi.resolve_left (by omega)
  exact ⟨by omega, BitVec.eq_of_toInt_eq (by omega), hloInc, hhiInc⟩

/-- Settles O36: the two answers of the search, and what a band accepts. -/
theorem leastAcceptingBandIsSelected : Obligations.LeastAcceptingBandIsSelected :=
  ⟨fun _ _ _ => selectBand_eq_some_iff, fun _ _ => selectBand_eq_none_iff, band_accepts_iff,
    fun _ _ => band_accepts_of_not_ascending⟩

end Sys2Proof.Machine
end

section
/-! PROOF. The bands of a gas slot as the rational reference reads them, word by word through the index space (10_state.md R35 to
R39; 42_gas_calibration.md R154, R157). -/

namespace Sys2Proof.Machine

/-! ### Gas slots -/

/-- The position `k` of the table is the gas code `k + 1` (10_state.md R35). -/
theorem calSlot_eq_some_iff {n : Nat} {k : Fin 11} : calSlot n = some k ↔ n = k.val + 1 := by
  have hcode : calSlot (k.val + 1) = some k := calSlot_some (k.val + 1) (by omega)
  constructor
  · exact fun h => calSlot_injective n _ k h hcode
  · rintro rfl
    exact hcode

theorem gas_slot_eq_some_iff {g : Gas} {k : Fin 11} : g.slot = some k ↔ g.code.toNat = k.val + 1 := calSlot_eq_some_iff

/-- The gases of CO to PH3 are those with a slot. -/
theorem exists_gas_slot {g : Gas} (hlow : 1 ≤ g.code.toNat) (hhigh : g.code.toNat ≤ 11) : ∃ k, g.slot = some k :=
  ⟨_, calSlot_some _ ⟨hlow, hhigh⟩⟩

theorem gas_ne_o2_of_slot {g : Gas} {k : Fin 11} (h : g.slot = some k) : g ≠ .o2 := by
  rintro rfl
  cases h

/-- A gas without a slot is O2 or Unknown (42_gas_calibration.md R155). -/
theorem gas_slot_eq_none_iff {g : Gas} : g.slot = none ↔ g = .o2 ∨ g = .unknown := by cases g <;> decide

theorem gas_code_eq_zero_iff (g : Gas) : g.code = 0 ↔ g = .o2 := by cases g <;> decide

/-! ### Words and flags of a band -/

/-- The words of the index space at a gas slot are the words of its bands. -/
theorem entryWord_eq (s : State) (g : Fin 11) (b : Fin 8) {w : Nat} (hw : w < 8) :
    Reference.entryWord s (g.val + 1) b.val w = (s.cal.entry g b).word w := by
  have hindex : (BitVec.ofNat 10 (64 * (g.val + 1) + 8 * b.val + w)).toNat = 64 * (g.val + 1) + 8 * b.val + w := by
    rw [BitVec.toNat_ofNat]
    omega
  have hgas : calSlot (calGas (BitVec.ofNat 10 (64 * (g.val + 1) + 8 * b.val + w))) = some g := by
    rw [calSlot_eq_some_iff, calGas_eq, hindex]
    omega
  have hband : calBand (BitVec.ofNat 10 (64 * (g.val + 1) + 8 * b.val + w)) = b := by
    apply Fin.ext
    rw [calBand_val, hindex]
    omega
  have hword : calWordNo (BitVec.ofNat 10 (64 * (g.val + 1) + 8 * b.val + w)) = w := by
    rw [calWordNo_eq, hindex]
    omega
  rw [Reference.entryWord, calRead, hgas, hband, hword]

theorem entryFlag_eq (s : State) (g : Fin 11) (b : Fin 8) {k : Nat} (hk : k < 5) :
    Reference.entryFlag s (g.val + 1) b.val k = (s.cal.entry g b).flags.getLsbD k := by
  rw [Reference.entryFlag, entryWord_eq s g b (by decide)]
  have hlow : k < 32 := by omega
  simp [Band.word, hlow]

/-- A band is its seven implemented words (10_state.md R38). -/
theorem band_eq_of_words {e e' : Band} (h : ∀ w, w < 7 → e.word w = e'.word w) : e = e' := by
  have hflags : e.flags = e'.flags := by
    have hword : e.flags.setWidth 32 = e'.flags.setWidth 32 := h 2 (by decide)
    have hlow := congrArg (BitVec.setWidth 5) hword
    simpa using hlow
  obtain ⟨lo, hi, flags, a, b, c, d⟩ := e
  obtain ⟨lo', hi', flags', a', b', c', d'⟩ := e'
  rw [Band.mk.injEq]
  exact ⟨h 0 (by decide), h 1 (by decide), hflags, h 3 (by decide), h 4 (by decide), h 5 (by decide), h 6 (by decide)⟩

/-! ### Selection -/

/-- The reference accepts a band exactly when the machine does. -/
theorem accepts_iff (s : State) (g : Fin 11) (b : Fin 8) :
    Reference.Accepts s (g.val + 1) b.val ↔ (s.cal.entry g b).accepts s.temp.toInt = true := by
  rw [Reference.Accepts, entryFlag_eq s g b (by decide), entryFlag_eq s g b (by decide), entryFlag_eq s g b (by decide),
    entryWord_eq s g b (by decide), entryWord_eq s g b (by decide), Band.accepts, Bool.and_eq_true, Band.contains, Bool.and_eq_true]
  simp only [Bool.ite_eq_true_distrib, decide_eq_true_eq]
  rfl

/-- The band that the reference selects is the one that the search finds. -/
theorem selected_iff (s : State) (g : Fin 11) (b : Fin 8) :
    Reference.Selected s (g.val + 1) b.val ↔ selectBand s.cal[g] s.temp.toInt = some b := by
  rw [selectBand_eq_some_iff]
  constructor
  · rintro ⟨-, hb, hleast⟩
    exact ⟨(accepts_iff s g b).mp hb, fun k hk => Bool.eq_false_iff.mpr fun hacc => hleast k hk ((accepts_iff s g k).mpr hacc)⟩
  · rintro ⟨hb, hleast⟩
    refine ⟨b.isLt, (accepts_iff s g b).mpr hb, fun k hk hacc => ?_⟩
    have hrejects := hleast ⟨k, hk.trans b.isLt⟩ hk
    exact Bool.eq_false_iff.mp hrejects ((accepts_iff s g ⟨k, hk.trans b.isLt⟩).mp hacc)

/-- No band is found exactly when the reference accepts none. -/
theorem none_accepts_iff (s : State) (g : Fin 11) :
    (∀ b, b < 8 → ¬ Reference.Accepts s (g.val + 1) b) ↔ selectBand s.cal[g] s.temp.toInt = none := by
  rw [selectBand_eq_none_iff]
  constructor
  · exact fun h b => Bool.eq_false_iff.mpr fun hacc => h b b.isLt ((accepts_iff s g b).mpr hacc)
  · exact fun h b hb hacc => Bool.eq_false_iff.mp (h ⟨b, hb⟩) ((accepts_iff s g ⟨b, hb⟩).mp hacc)

/-! ### The value of a band -/

theorem rawConc_toRat (s : State) : (rawConc s.mag s.res).toRat = Reference.rawQ s := by
  simp [Frac.toRat, rawConc, Reference.rawQ]

theorem rawConc_den_pos (mag : BitVec 16) (res : Fin 3) : 0 < (rawConc mag res).den := Nat.pow_pos (by decide)

theorem linearTerm_den_pos (slope intercept : Word) (t : Int) : 0 < (linearTerm slope intercept t).den := Nat.succ_pos _

/-- The linear term over the rationals: coefficients in units of 10^-6, the temperature in units of 2^-16. -/
theorem linearTerm_toRat (slope intercept : Word) (t : Int) : (linearTerm slope intercept t).toRat =
    (slope.toInt : ℚ) / 10 ^ 6 * ((t : ℚ) / 65536) + (intercept.toInt : ℚ) / 10 ^ 6 := by
  simp only [Frac.toRat, linearTerm]
  push_cast
  ring

theorem toRat_eq_zero_iff {x : Frac} (hx : 0 < x.den) : x.toRat = 0 ↔ x.num = 0 := by
  have hden : (x.den : ℚ) ≠ 0 := by exact_mod_cast hx.ne'
  rw [Frac.toRat, div_eq_zero_iff, or_iff_left hden, Int.cast_eq_zero]

theorem denomQ_eq (s : State) (g : Fin 11) (b : Fin 8) :
    Reference.denomQ s (g.val + 1) b.val = (linearTerm (s.cal.entry g b).a (s.cal.entry g b).b s.temp.toInt).toRat := by
  rw [linearTerm_toRat, Reference.denomQ, Reference.coefQ, Reference.coefQ, entryWord_eq s g b (by decide),
    entryWord_eq s g b (by decide)]
  rfl

theorem offsetQ_eq (s : State) (g : Fin 11) (b : Fin 8) :
    Reference.offsetQ s (g.val + 1) b.val = (linearTerm (s.cal.entry g b).c (s.cal.entry g b).d s.temp.toInt).toRat := by
  rw [linearTerm_toRat, Reference.offsetQ, Reference.coefQ, Reference.coefQ, entryWord_eq s g b (by decide),
    entryWord_eq s g b (by decide)]
  rfl

/-- The band divides by zero: its value is undefined (R158). -/
def Band.DividesByZero (e : Band) (t : Int) : Prop := e.div = true ∧ (linearTerm e.a e.b t).num = 0

theorem dividesByZero_iff (s : State) (g : Fin 11) (b : Fin 8) :
    Reference.entryFlag s (g.val + 1) b.val 3 = true ∧ Reference.denomQ s (g.val + 1) b.val = 0 ↔
      (s.cal.entry g b).DividesByZero s.temp.toInt := by
  rw [entryFlag_eq s g b (by decide), denomQ_eq, toRat_eq_zero_iff (linearTerm_den_pos _ _ _)]
  rfl

/-- The first half of a band's formula: the raw value, divided where the band divides (R154). -/
def Band.quotient (e : Band) (raw : Frac) (t : Int) : Frac := if e.div then raw.div (linearTerm e.a e.b t) else raw

theorem bandValue_eq (e : Band) (raw : Frac) (t : Int) :
    bandValue e raw t = if e.off then (e.quotient raw t).sub (linearTerm e.c e.d t) else e.quotient raw t := rfl

theorem quotient_toRat {e : Band} {raw : Frac} {t : Int} (hraw : 0 < raw.den) (hdef : ¬ e.DividesByZero t) :
    0 < (e.quotient raw t).den ∧
      (e.quotient raw t).toRat = if e.div then raw.toRat / (linearTerm e.a e.b t).toRat else raw.toRat := by
  rw [Band.quotient]
  split
  · next hdiv =>
    have hnum : (linearTerm e.a e.b t).num ≠ 0 := fun h0 => hdef ⟨hdiv, h0⟩
    exact ⟨frac_div_den_pos _ _ hraw hnum, frac_div_toRat _ _ hraw (linearTerm_den_pos _ _ _) hnum⟩
  · exact ⟨hraw, rfl⟩

/-- A defined band value is the fraction of its formula: divide first, then subtract (R154). -/
theorem bandValue_toRat (s : State) (g : Fin 11) (b : Fin 8) (hdef : ¬ (s.cal.entry g b).DividesByZero s.temp.toInt) :
    0 < (bandValue (s.cal.entry g b) (rawConc s.mag s.res) s.temp.toInt).den ∧
      (bandValue (s.cal.entry g b) (rawConc s.mag s.res) s.temp.toInt).toRat = Reference.bandQ s (g.val + 1) b.val := by
  obtain ⟨hden, hquot⟩ := quotient_toRat (rawConc_den_pos s.mag s.res) hdef
  rw [Reference.bandQ, entryFlag_eq s g b (by decide), entryFlag_eq s g b (by decide), denomQ_eq, offsetQ_eq, ← rawConc_toRat,
    bandValue_eq]
  change _ ∧ _ = (if (s.cal.entry g b).div then _ else _) - (if (s.cal.entry g b).off then _ else _)
  rw [← hquot]
  split
  · exact ⟨frac_sub_den_pos _ _ hden (linearTerm_den_pos _ _ _), frac_sub_toRat _ _ hden (linearTerm_den_pos _ _ _)⟩
  · exact ⟨hden, (sub_zero _).symm⟩

end Sys2Proof.Machine
end

section
/-! PROOF. CORR as the machine computes it: its exact value branch by branch, its one rounding, and what it writes
(42_gas_calibration.md R155 to R161). -/

namespace Sys2Proof.Machine

/-! ### The value, branch by branch -/

/-- Without compensation, and for O2, the value is the raw one (R155). -/
theorem corrValue_of_raw {s : State} (h : s.tcEn = false ∨ s.gas = .o2) : corrValue s = (rawConc s.mag s.res, .ok) := by
  rw [corrValue]
  rcases h with h | h
  · rw [if_pos h]
  · rw [if_pos h, ite_self]

/-- With compensation on, a gas without a slot other than O2 is Unknown (R155). -/
theorem corrValue_of_no_slot {s : State} (on : s.tcEn = true) (hO2 : s.gas ≠ .o2) (hslot : s.gas.slot = none) :
    corrValue s = (Frac.ofNat 0, .unkgas) := by
  simp [corrValue, on, hO2, hslot]

section
variable {s : State} {g : Fin 11} (on : s.tcEn = true) (hslot : s.gas.slot = some g)
include on hslot

theorem corrValue_of_no_temperature (ht : s.tvalid = false) : corrValue s = (Frac.ofNat 0, .notemp) := by
  simp [corrValue, on, gas_ne_o2_of_slot hslot, hslot, ht]

theorem corrValue_of_no_band (ht : s.tvalid = true) (hsel : selectBand s.cal[g] s.temp.toInt = none) :
    corrValue s = (Frac.ofNat 0, .noband) := by
  simp only [corrValue, on, gas_ne_o2_of_slot hslot, hslot, ht, hsel, if_false, reduceCtorEq]

theorem corrValue_of_band (ht : s.tvalid = true) {b : Fin 8} (hsel : selectBand s.cal[g] s.temp.toInt = some b) :
    corrValue s = bandResult (s.cal.entry g b) (rawConc s.mag s.res) s.temp.toInt := by
  simp only [corrValue, on, gas_ne_o2_of_slot hslot, hslot, ht, hsel, if_false, reduceCtorEq]

end

theorem bandResult_of_dividesByZero {e : Band} {raw : Frac} {t : Int} (h : e.DividesByZero t) :
    bandResult e raw t = (Frac.ofNat 0, .divzero) := if_pos h

theorem bandResult_of_defined {e : Band} {raw : Frac} {t : Int} (hdef : ¬ e.DividesByZero t) (hden : 0 < (bandValue e raw t).den) :
    bandResult e raw t = if (bandValue e raw t).toRat < 0 then (Frac.ofNat 0, .clamp) else (bandValue e raw t, .ok) := by
  simp only [← frac_neg_iff _ hden]
  exact if_neg hdef

/-! ### The rounding -/

theorem isRne_abs_sub_le {x : ℚ} {q : Int} (h : Reference.IsRne x q) : |x - q| ≤ 1 / 2 :=
  h.elim le_of_lt fun ⟨heq, _⟩ => heq.le

/-- Rounding does not pass a whole number from below. -/
theorem isRne_le {x : ℚ} {q m : Int} (h : Reference.IsRne x q) (hx : x ≤ m) : q ≤ m := by
  obtain ⟨hlow, -⟩ := abs_le.mp (isRne_abs_sub_le h)
  have hq : (q : ℚ) < m + 1 := by linarith
  exact Int.lt_add_one_iff.mp (by exact_mod_cast hq)

/-- Rounding does not pass a whole number from above. -/
theorem le_isRne {x : ℚ} {q m : Int} (h : Reference.IsRne x q) (hx : (m : ℚ) ≤ x) : m ≤ q := by
  obtain ⟨-, hhigh⟩ := abs_le.mp (isRne_abs_sub_le h)
  have hq : (m : ℚ) < q + 1 := by linarith
  exact Int.lt_add_one_iff.mp (by exact_mod_cast hq)

/-- A fraction that CORR may round: a positive denominator and a value that is not negative. -/
structure Frac.Nonneg (x : Frac) : Prop where
  den_pos : 0 < x.den
  toRat_nonneg : 0 ≤ x.toRat

theorem zero_toRat : (Frac.ofNat 0).toRat = 0 := by rw [frac_ofNat_toRat, Nat.cast_zero]

theorem zero_nonneg : (Frac.ofNat 0).Nonneg := ⟨Nat.one_pos, zero_toRat.ge⟩

theorem rawConc_nonneg (mag : BitVec 16) (res : Fin 3) : (rawConc mag res).Nonneg where
  den_pos := rawConc_den_pos mag res
  toRat_nonneg := by
    rw [Frac.toRat, rawConc]
    positivity

theorem q16_nonneg {x : Frac} (hx : x.Nonneg) : 0 ≤ x.q16 := by
  refine le_isRne (q16_isRne x hx.den_pos) ?_
  have := hx.toRat_nonneg
  push_cast
  positivity

/-- The raw value is at most 65535 (R152), so its code is at most 0xFFFF0000. -/
theorem q16_rawConc_le (mag : BitVec 16) (res : Fin 3) : (rawConc mag res).q16 ≤ 0xFFFF0000 := by
  refine isRne_le (q16_isRne _ (rawConc_den_pos mag res)) ?_
  have hmag : (mag.toNat : ℚ) ≤ 65535 := by exact_mod_cast Nat.le_of_lt_succ mag.isLt
  have hscale : (1 : ℚ) ≤ 10 ^ res.val := one_le_pow₀ (by norm_num)
  have hraw : (rawConc mag res).toRat ≤ mag.toNat := by
    simp only [Frac.toRat, rawConc]
    push_cast
    exact div_le_self (by positivity) hscale
  push_cast
  linarith

/-- The codes of CONC hold every rounded value that does not saturate. -/
theorem roundConc_of_le {v : Frac × ErrCode} (hv : v.1.Nonneg) (hq : v.1.q16 ≤ 0xFFFFFFFF) :
    ((roundConc v).1.toNat : Int) = v.1.q16 ∧ (roundConc v).2 = v.2 := by
  have hnonneg := q16_nonneg hv
  rw [roundConc, if_neg (by omega)]
  refine ⟨?_, rfl⟩
  rw [BitVec.toNat_ofInt]
  omega

/-- The raw value never saturates (R155). -/
theorem roundConc_rawConc (mag : BitVec 16) (res : Fin 3) :
    ((roundConc (rawConc mag res, .ok)).1.toNat : Int) = (rawConc mag res).q16 ∧ (roundConc (rawConc mag res, .ok)).2 = .ok :=
  roundConc_of_le (rawConc_nonneg mag res) ((q16_rawConc_le mag res).trans (by decide))

theorem roundConc_of_gt {v : Frac × ErrCode} (hq : 0xFFFFFFFF < v.1.q16) : roundConc v = (0xFFFFFFFF, .sat) := if_pos hq

theorem roundConc_of_zero {v : Frac × ErrCode} (hden : 0 < v.1.den) (h0 : v.1.toRat = 0) : roundConc v = (0, v.2) := by
  have hround : Reference.IsRne (0 : ℚ) v.1.q16 := by simpa [h0] using q16_isRne v.1 hden
  have hq : v.1.q16 = 0 := le_antisymm (isRne_le hround (by simp)) (le_isRne hround (by simp))
  rw [roundConc, hq]
  rfl

/-! ### CORR as an instruction -/

/-- CORR writes the rounded value and its outcome, and nothing else. -/
theorem exec_corr (s : State) : exec .corr s =
    .next { s with conc := (roundConc (corrValue s)).1, err := (roundConc (corrValue s)).2, response := .written } := rfl

theorem exec_corr_of_zero {s : State} {x : Frac} {e : ErrCode} (hvalue : corrValue s = (x, e)) (hden : 0 < x.den)
    (h0 : x.toRat = 0) : exec .corr s = .next { s with conc := 0, err := e, response := .written } := by
  rw [exec_corr, hvalue, roundConc_of_zero hden h0]

/-- The branches that force the value to 0 write CONC 0. -/
theorem exec_corr_of_forced_zero {s : State} {e : ErrCode} (hvalue : corrValue s = (Frac.ofNat 0, e)) :
    exec .corr s = .next { s with conc := 0, err := e, response := .written } :=
  exec_corr_of_zero hvalue Nat.one_pos zero_toRat

end Sys2Proof.Machine
end

section
/-! PROOF. CORR meets the rule over the rationals, branch by branch (42_gas_calibration.md R156). -/

namespace Sys2Proof.Machine

/-- What the reference asks of the value and the outcome of a selected band (R156). -/
def BandRule (s : State) (g b : Nat) (v : ℚ) (e : ErrCode) : Prop :=
  if Reference.entryFlag s g b 3 = true ∧ Reference.denomQ s g b = 0 then v = 0 ∧ e = .divzero
  else if Reference.bandQ s g b < 0 then v = 0 ∧ e = .clamp
  else v = Reference.bandQ s g b ∧ e = .ok

theorem corrRule_of_raw {s : State} (h : s.tcEn = false ∨ s.gas = .o2) {v : ℚ} {e : ErrCode} :
    Reference.CorrValue s v e ↔ v = Reference.rawQ s ∧ e = .ok := by
  rw [Reference.CorrValue]
  rcases h with h | h
  · rw [if_pos h]
  · have hcode : Reference.gasCode s = 0 := by rw [Reference.gasCode, h]; rfl
    rw [if_pos hcode, ite_self]

theorem corrRule_of_unknown {s : State} (on : s.tcEn = true) (hgas : s.gas = .unknown) {v : ℚ} {e : ErrCode} :
    Reference.CorrValue s v e ↔ v = 0 ∧ e = .unkgas := by
  have hcode : Reference.gasCode s = 15 := by rw [Reference.gasCode, hgas]; rfl
  simp [Reference.CorrValue, on, hcode]

/-- For a table gas with compensation on, the reference goes by TVALID and by the bands of its slot. -/
theorem corrRule_of_slot {s : State} {g : Fin 11} (on : s.tcEn = true) (hslot : s.gas.slot = some g) {v : ℚ} {e : ErrCode} :
    Reference.CorrValue s v e ↔
      if s.tvalid = false then v = 0 ∧ e = .notemp
      else ((∀ b, b < 8 → ¬ Reference.Accepts s (g.val + 1) b) ∧ v = 0 ∧ e = .noband) ∨
        ∃ b, Reference.Selected s (g.val + 1) b ∧ BandRule s (g.val + 1) b v e := by
  have hcode : Reference.gasCode s = g.val + 1 := gas_slot_eq_some_iff.mp hslot
  have htable : 1 ≤ g.val + 1 ∧ g.val + 1 ≤ 11 := by omega
  rw [Reference.CorrValue, hcode, if_neg (by simp [on]), if_neg (by omega), if_neg (not_not.mpr htable)]
  rfl

/-- The result of a band meets the reference's rule for it. -/
theorem bandResult_meets_rule (s : State) (g : Fin 11) (b : Fin 8) {r : Frac × ErrCode}
    (hr : bandResult (s.cal.entry g b) (rawConc s.mag s.res) s.temp.toInt = r) :
    r.1.Nonneg ∧ BandRule s (g.val + 1) b.val r.1.toRat r.2 := by
  have hdivzero := dividesByZero_iff s g b
  rw [BandRule]
  by_cases hdef : (s.cal.entry g b).DividesByZero s.temp.toInt
  · rw [if_pos (hdivzero.mpr hdef), ← hr, bandResult_of_dividesByZero hdef]
    exact ⟨zero_nonneg, zero_toRat, rfl⟩
  · obtain ⟨hden, hvalue⟩ := bandValue_toRat s g b hdef
    rw [bandResult_of_defined hdef hden, hvalue] at hr
    rw [if_neg (mt hdivzero.mp hdef), ← hr]
    split
    · exact ⟨zero_nonneg, zero_toRat, rfl⟩
    · next hnonneg => exact ⟨⟨hden, hvalue ▸ not_lt.mp hnonneg⟩, hvalue, rfl⟩

/-- The value that the machine rounds is the one of the rational rule, with its outcome. -/
theorem corrValue_meets_rule (s : State) :
    (corrValue s).1.Nonneg ∧ Reference.CorrValue s (corrValue s).1.toRat (corrValue s).2 := by
  by_cases hraw : s.tcEn = false ∨ s.gas = .o2
  · rw [corrRule_of_raw hraw, corrValue_of_raw hraw]
    exact ⟨rawConc_nonneg s.mag s.res, rawConc_toRat s, rfl⟩
  · obtain ⟨hon, hO2⟩ := not_or.mp hraw
    have on : s.tcEn = true := Bool.not_eq_false _ ▸ hon
    cases hslot : s.gas.slot with
    | none =>
      rw [corrRule_of_unknown on ((gas_slot_eq_none_iff.mp hslot).resolve_left hO2), corrValue_of_no_slot on hO2 hslot]
      exact ⟨zero_nonneg, zero_toRat, rfl⟩
    | some g =>
      rw [corrRule_of_slot on hslot]
      cases ht : s.tvalid with
      | false =>
        rw [corrValue_of_no_temperature on hslot ht]
        exact ⟨zero_nonneg, zero_toRat, rfl⟩
      | true =>
        cases hsel : selectBand s.cal[g] s.temp.toInt with
        | none =>
          rw [corrValue_of_no_band on hslot ht hsel]
          exact ⟨zero_nonneg, .inl ⟨(none_accepts_iff s g).mpr hsel, zero_toRat, rfl⟩⟩
        | some b =>
          obtain ⟨hnonneg, hrule⟩ := bandResult_meets_rule s g b (corrValue_of_band on hslot ht hsel).symm
          exact ⟨hnonneg, .inr ⟨b, (selected_iff s g b).mpr hsel, hrule⟩⟩

/-- Settles O33: the value meets the rational rule and is rounded once; CONC holds the result unless it saturates. -/
theorem corrMeetsTheRationalRule : Obligations.CorrMeetsTheRationalRule := by
  intro s
  obtain ⟨hnonneg, hrule⟩ := corrValue_meets_rule s
  refine ⟨_, exec_corr s, ⟨_, _, _, hrule, q16_isRne _ hnonneg.den_pos, ?_⟩, rfl⟩
  by_cases hq : 0xFFFFFFFF < (corrValue s).1.q16
  · rw [if_pos hq, roundConc_of_gt hq]
    exact ⟨rfl, rfl⟩
  · rw [if_neg hq]
    exact roundConc_of_le hnonneg (not_lt.mp hq)

end Sys2Proof.Machine
end

section
/-! PROOF. The single branches of CORR: raw values, forced zeros, and the table slot of CO at -30 °C (42_gas_calibration.md R155 to
R163). -/

namespace Sys2Proof.Machine

/-- Settles O34: the raw value rounds to at most 0xFFFF0000 and so does not saturate; Unknown is forced to 0. -/
theorem corrWithoutTheTable : Obligations.CorrWithoutTheTable := by
  refine fun s => ⟨fun h => ?_, fun on hcode => ?_⟩
  · rw [gas_code_eq_zero_iff] at h
    obtain ⟨hconc, herr⟩ := roundConc_rawConc s.mag s.res
    have hle : (roundConc (rawConc s.mag s.res, .ok)).1.toNat ≤ 0xFFFF0000 := by
      have := q16_rawConc_le s.mag s.res
      omega
    have hround := q16_isRne _ (rawConc_den_pos s.mag s.res)
    rw [rawConc_toRat, ← hconc] at hround
    refine ⟨_, exec_corr s, ?_⟩
    rw [corrValue_of_raw h]
    exact ⟨herr, hle, hround⟩
  · have hgas := (gas_code_eq_fifteen_iff s.gas).mp hcode
    have hO2 : s.gas ≠ .o2 := by simp [hgas]
    exact ⟨_, exec_corr_of_forced_zero (corrValue_of_no_slot on hO2 (gas_slot_eq_none_iff.mpr (.inr hgas))), rfl, rfl⟩

/-- Settles O35: a table gas has a slot, and without a temperature its value is forced to 0. -/
theorem corrWithoutATemperature : Obligations.CorrWithoutATemperature := by
  intro s on hlow hhigh ht
  obtain ⟨g, hslot⟩ := exists_gas_slot hlow hhigh
  exact exec_corr_of_forced_zero (corrValue_of_no_temperature on hslot ht)

/-- Settles O37: the selected band divides by zero, or its value is defined and the sign of that value decides. -/
theorem undefinedAndNegativeValuesGiveZero : Obligations.UndefinedAndNegativeValuesGiveZero := by
  intro s n on hlow hhigh ht hselected
  obtain ⟨g, hslot⟩ := exists_gas_slot hlow hhigh
  rw [gas_slot_eq_some_iff.mp hslot] at hselected ⊢
  obtain ⟨b, rfl⟩ : ∃ b : Fin 8, b.val = n := ⟨⟨n, hselected.1⟩, rfl⟩
  have hvalue := corrValue_of_band on hslot ht ((selected_iff s g b).mp hselected)
  have hdivzero := dividesByZero_iff s g b
  refine ⟨fun hdiv hdenom => ?_, fun hdef => ?_⟩
  · rw [bandResult_of_dividesByZero (hdivzero.mp ⟨hdiv, hdenom⟩)] at hvalue
    exact exec_corr_of_forced_zero hvalue
  · obtain ⟨hden, hband⟩ := bandValue_toRat s g b (mt hdivzero.mpr hdef)
    rw [bandResult_of_defined (mt hdivzero.mpr hdef) hden, hband] at hvalue
    refine ⟨fun hneg => ?_, fun hzero => ?_⟩
    · rw [if_pos hneg] at hvalue
      exact exec_corr_of_forced_zero hvalue
    · rw [if_neg hzero.ge.not_gt] at hvalue
      exact exec_corr_of_zero hvalue hden (hband.trans hzero)

/-- Settles O4: the default parameters are admissible, so that the CO slot of their table has no band for -30 °C. -/
theorem defaultTableHasNoCoBandAtMinusThirty : Obligations.DefaultTableHasNoCoBandAtMinusThirty := by
  refine ⟨configOk_defaultConfig, fun s hcal on ht hgas htemp => ?_⟩
  have hadmitted : tableAdmitted defaultConfig.calDefault = true := tableAdmitted_admitTable _
  have hslot : s.gas.slot = some 0 := by rw [hgas]; rfl
  have hminus : s.temp.toInt = minusThirty := by rw [htemp]; rfl
  have hnone : selectBand s.cal[(0 : Fin 11)] s.temp.toInt = none := by
    rw [hcal, hminus]
    exact Option.isNone_iff_eq_none.mp hadmitted
  exact exec_corr_of_forced_zero (corrValue_of_no_band on hslot ht hnone)

end Sys2Proof.Machine
end

section
/-! PROOF. What CORR depends on (42_gas_calibration.md R164), and a band that saturates without dividing (R160). -/

namespace Sys2Proof.Machine

/-- Two states whose words of a slot agree have the same bands there. -/
theorem slot_eq_of_entryWord {s s' : State} {g : Fin 11} (h : ∀ b w, b < 8 → w < 7 →
    Reference.entryWord s (g.val + 1) b w = Reference.entryWord s' (g.val + 1) b w) : s.cal[g] = s'.cal[g] := by
  apply Vector.ext
  intro b hb
  refine band_eq_of_words (e := s.cal.entry g ⟨b, hb⟩) (e' := s'.cal.entry g ⟨b, hb⟩) fun w hw => ?_
  have hlt : w < 8 := by omega
  rw [← entryWord_eq s g ⟨b, hb⟩ hlt, ← entryWord_eq s' g ⟨b, hb⟩ hlt]
  exact h b w hb hw

/-- Settles O38: every operand of the value is one that the two states share. -/
theorem corrDependsOnItsOperandsOnly : Obligations.CorrDependsOnItsOperandsOnly := by
  intro s s' htcEn hgas hmag hres htemp htvalid hwords
  have hvalue : corrValue s = corrValue s' := by
    rw [corrValue, corrValue, htcEn, hgas, hmag, hres, htemp, htvalid]
    cases hslot : s'.gas.slot with
    | none => rfl
    | some g =>
      rw [hgas, gas_slot_eq_some_iff.mp hslot] at hwords
      simp only [CalTable.entry, slot_eq_of_entryWord hwords]
  exact ⟨_, _, exec_corr s, exec_corr s', by rw [hvalue], by rw [hvalue]⟩

/-! ### Saturation without division -/

/-- A band that is enabled at every temperature and only subtracts the offset -2147.483648, the least there is. -/
def subtractingBand : Band := ⟨0x80000000, 0x7FFFFFFF, 0x17, 0, 0, 0, 0x80000000⟩

/-- CORR of CO at 25 °C and the largest raw value, under a table whose every band is that one. -/
def saturatingState : State :=
  { State.resetWith ⟨0, defaultOthers, Vector.replicate 11 (Vector.replicate 8 subtractingBand)⟩ with
    tcEn := true, gas := .co, mag := 65535, temp := 0x00190000, tvalid := true }

theorem saturatingState_selected : Reference.Selected saturatingState saturatingState.gas.code.toNat 0 :=
  (selected_iff saturatingState 0 0).mpr (by decide)

/-- Refutes O39: `saturatingState` selects a band with DIV = 0, and its value of about 67682 saturates. -/
theorem not_onlyADividingBandSaturates : ¬ Obligations.OnlyADividingBandSaturates := by
  intro h
  have herr : (roundConc (corrValue saturatingState)).2 = .sat := by decide
  have hdiv := h saturatingState _ 0 (exec_corr saturatingState) herr saturatingState_selected
  exact absurd hdiv (by decide)

end Sys2Proof.Machine
end

section
/-! PROOF. What R182 and R183 exclude: an ILLEGAL CMD word does nothing but report itself, and no state or event stops the block. -/

namespace Sys2Proof.Machine

/-- Settles O19: `decodeCmd` rejects the word, and a rejected word only reports its outcome. -/
theorem illegalWordOnlySetsErr : Obligations.IllegalWordOnlySetsErr := by
  intro s w hw
  obtain ⟨r, hr⟩ := (decodeCmd_error_iff w).mpr hw
  refine ⟨illegalCmd s, ?_, rfl, rfl⟩
  rw [exec_wr_cmd, performCmd_of_error hr]

/-- Serving an access answers a next state, with the parameters and the events still to come as they were. -/
theorem serveAccess_goes_on (x : BusAccess) (s : State) :
    ∃ t, serveAccess x s = .next t ∧ t.cfg = s.cfg ∧ t.pending = s.pending := by
  cases hx : decodeAccess s.cfg.base x with
  | ok i => exact ⟨effect i s, (serveAccess_of_ok hx).trans (exec_eq_effect i s), effect_keeps_outside i s⟩
  | error r => exact ⟨s, serveAccess_of_error hx, rfl, rfl⟩

/-- So does serving any event: a reset takes the parameters and the events from the state it finds. -/
theorem serve_goes_on (e : HostEvent) (s : State) : ∃ t, serve e s = .next t ∧ t.cfg = s.cfg ∧ t.pending = s.pending := by
  cases e with
  | access x => exact serveAccess_goes_on x s
  | reset | resetDuring x => exact ⟨applyReset s, rfl, rfl, rfl⟩

/-- Settles O44: a step serves the first event on the state without it, or keeps a state with no event to come. -/
theorem everyStepGoesOn : Obligations.EveryStepGoesOn := by
  intro s
  cases hp : s.pending with
  | nil => exact ⟨s, by rw [step, hp], rfl, hp⟩
  | cons e rest =>
    rw [step, hp]
    exact serve_goes_on e (withPending rest s)

end Sys2Proof.Machine
end

section
/-! PROOF. Reset: what it leaves of a state and of an access it finds held, and CORR right after it (70_reset_and_hazards.md R200, R204,
R211). -/

namespace Sys2Proof.Machine

/-! ### The step of a reset -/

/-- A step serves the first event to come, with that event taken from the list. -/
theorem step_event {s : State} {e : HostEvent} {rest : List HostEvent} (h : s.pending = e :: rest) :
    step s = serve e (withPending rest s) := by
  rw [step, h]
  rfl

theorem serve_reset (s : State) : serve .reset s = .next (applyReset s) := rfl

/-- A reset serves nothing of the access it finds held (R204). -/
theorem serve_resetDuring (x : BusAccess) (s : State) : serve (.resetDuring x) s = .next (applyReset s) := rfl

/-- A reset keeps the parameters and the events still to come, and nothing else. -/
theorem applyReset_withPending (rest : List HostEvent) (s : State) :
    applyReset (withPending rest s) = { State.resetWith s.cfg with pending := rest } := rfl

/-- Settles O3: with or without an access held, the event is served by `applyReset` on the state without it. -/
theorem resetAbandonsAHeldAccess : Obligations.ResetAbandonsAHeldAccess := by
  intro s x rest hp
  rcases hp with hreset | hheld
  · rw [step_event hreset, serve_reset, applyReset_withPending]
  · rw [step_event hheld, serve_resetDuring, applyReset_withPending]

/-! ### CORR right after reset -/

/-- The raw value of magnitude 0 is 0 at every resolution (R150). -/
theorem rawConc_zero_toRat (res : Fin 3) : (rawConc 0 res).toRat = 0 := (toRat_eq_zero_iff (rawConc_den_pos 0 res)).mpr rfl

/-- Settles O40: the value is the raw 0 with compensation off, and a forced 0 with it on, for Unknown and for CO without a temperature;
CONC was 0 already. -/
theorem corrAfterReset : Obligations.CorrAfterReset := by
  intro cfg
  refine ⟨?off, ?unknown, ?tableGas⟩
  case off =>
    exact exec_corr_of_zero (corrValue_of_raw (.inl rfl)) (rawConc_den_pos 0 0) (rawConc_zero_toRat 0)
  case unknown =>
    have hO2 : Gas.unknown ≠ .o2 := by decide
    exact exec_corr_of_forced_zero (corrValue_of_no_slot rfl hO2 rfl)
  case tableGas =>
    have hslot : Gas.co.slot = some 0 := rfl
    exact exec_corr_of_forced_zero (corrValue_of_no_temperature rfl hslot rfl)

end Sys2Proof.Machine
end
